-- ==== Sys2Proof/Word.lean ====
section
/-! DEFINITION. The two word types of the 6502_cpu_core (00_scope.md R5, R11): bytes and 16-bit words. -/

namespace Sys2Proof

/-- A byte, `u8` (R11): a register, a memory cell, an opcode, an operand byte. -/
abbrev Byte := BitVec 8

/-- A word, `u16` (R11): an address, the program counter, an absolute operand. -/
abbrev Word := BitVec 16

end Sys2Proof
end

