-- ==== Sys2Proof/Machine/Bits.lean ====
section
/-! DEFINITION. The byte and word conversions of the spec's notation (00_scope.md R11, R12). -/

namespace Sys2Proof.Machine

/-- `lo(w) = w[7:0]` (R11). -/
def lo (w : Word) : Byte := BitVec.ofNat 8 w.toNat

/-- `hi(w) = w[15:8]` (R11). -/
def hi (w : Word) : Byte := BitVec.ofNat 8 (w.toNat / 256)

/-- `h * 256 + l`, the word of a high and a low byte (R11). -/
def wordOf (h l : Byte) : Word := BitVec.ofNat 16 (h.toNat * 256 + l.toNat)

/-- `zext_16(b)` (R12). -/
def zext16 (b : Byte) : Word := BitVec.ofNat 16 b.toNat

/-- `sext_16(b) = u16(s8(b))` (R12). -/
def sext16 (b : Byte) : Word := BitVec.ofInt 16 b.toInt

end Sys2Proof.Machine
end

