-- ==== Sys2Proof/Syntax.lean ====
section
/-! DEFINITION. The instruction set: one constructor per row of spec/opcode_table.json (30_encoding.md R84), named by the
mnemonic and the mode's abbreviation (R81; none for imp, rel and JSR). An operand byte `n` is the byte after the opcode, an
operand word `w` the word after it (R82, R83). -/

namespace Sys2Proof

/-- The 151 defined instructions (R84). -/
inductive Instr where
  -- LDA (R130)
  /-- `LDA #$nn` -/
  | ldaImm (n : Byte)
  /-- `LDA $nn` -/
  | ldaZp (n : Byte)
  /-- `LDA $nn,X` -/
  | ldaZpx (n : Byte)
  /-- `LDA $hhll` -/
  | ldaAbs (w : Word)
  /-- `LDA $hhll,X` -/
  | ldaAbx (w : Word)
  /-- `LDA $hhll,Y` -/
  | ldaAby (w : Word)
  /-- `LDA ($nn,X)` -/
  | ldaIzx (n : Byte)
  /-- `LDA ($nn),Y` -/
  | ldaIzy (n : Byte)
  -- LDX (R131)
  /-- `LDX #$nn` -/
  | ldxImm (n : Byte)
  /-- `LDX $nn` -/
  | ldxZp (n : Byte)
  /-- `LDX $nn,Y` -/
  | ldxZpy (n : Byte)
  /-- `LDX $hhll` -/
  | ldxAbs (w : Word)
  /-- `LDX $hhll,Y` -/
  | ldxAby (w : Word)
  -- LDY (R132)
  /-- `LDY #$nn` -/
  | ldyImm (n : Byte)
  /-- `LDY $nn` -/
  | ldyZp (n : Byte)
  /-- `LDY $nn,X` -/
  | ldyZpx (n : Byte)
  /-- `LDY $hhll` -/
  | ldyAbs (w : Word)
  /-- `LDY $hhll,X` -/
  | ldyAbx (w : Word)
  -- STA (R133)
  /-- `STA $nn` -/
  | staZp (n : Byte)
  /-- `STA $nn,X` -/
  | staZpx (n : Byte)
  /-- `STA $hhll` -/
  | staAbs (w : Word)
  /-- `STA $hhll,X` -/
  | staAbx (w : Word)
  /-- `STA $hhll,Y` -/
  | staAby (w : Word)
  /-- `STA ($nn,X)` -/
  | staIzx (n : Byte)
  /-- `STA ($nn),Y` -/
  | staIzy (n : Byte)
  -- STX (R134)
  /-- `STX $nn` -/
  | stxZp (n : Byte)
  /-- `STX $nn,Y` -/
  | stxZpy (n : Byte)
  /-- `STX $hhll` -/
  | stxAbs (w : Word)
  -- STY (R135)
  /-- `STY $nn` -/
  | styZp (n : Byte)
  /-- `STY $nn,X` -/
  | styZpx (n : Byte)
  /-- `STY $hhll` -/
  | styAbs (w : Word)
  -- TAX (R136)
  /-- `TAX` -/
  | tax
  -- TAY (R137)
  /-- `TAY` -/
  | tay
  -- TXA (R138)
  /-- `TXA` -/
  | txa
  -- TYA (R139)
  /-- `TYA` -/
  | tya
  -- TSX (R140)
  /-- `TSX` -/
  | tsx
  -- TXS (R141)
  /-- `TXS` -/
  | txs
  -- ADC (R155)
  /-- `ADC #$nn` -/
  | adcImm (n : Byte)
  /-- `ADC $nn` -/
  | adcZp (n : Byte)
  /-- `ADC $nn,X` -/
  | adcZpx (n : Byte)
  /-- `ADC $hhll` -/
  | adcAbs (w : Word)
  /-- `ADC $hhll,X` -/
  | adcAbx (w : Word)
  /-- `ADC $hhll,Y` -/
  | adcAby (w : Word)
  /-- `ADC ($nn,X)` -/
  | adcIzx (n : Byte)
  /-- `ADC ($nn),Y` -/
  | adcIzy (n : Byte)
  -- SBC (R156)
  /-- `SBC #$nn` -/
  | sbcImm (n : Byte)
  /-- `SBC $nn` -/
  | sbcZp (n : Byte)
  /-- `SBC $nn,X` -/
  | sbcZpx (n : Byte)
  /-- `SBC $hhll` -/
  | sbcAbs (w : Word)
  /-- `SBC $hhll,X` -/
  | sbcAbx (w : Word)
  /-- `SBC $hhll,Y` -/
  | sbcAby (w : Word)
  /-- `SBC ($nn,X)` -/
  | sbcIzx (n : Byte)
  /-- `SBC ($nn),Y` -/
  | sbcIzy (n : Byte)
  -- AND (R157)
  /-- `AND #$nn` -/
  | andImm (n : Byte)
  /-- `AND $nn` -/
  | andZp (n : Byte)
  /-- `AND $nn,X` -/
  | andZpx (n : Byte)
  /-- `AND $hhll` -/
  | andAbs (w : Word)
  /-- `AND $hhll,X` -/
  | andAbx (w : Word)
  /-- `AND $hhll,Y` -/
  | andAby (w : Word)
  /-- `AND ($nn,X)` -/
  | andIzx (n : Byte)
  /-- `AND ($nn),Y` -/
  | andIzy (n : Byte)
  -- ORA (R158)
  /-- `ORA #$nn` -/
  | oraImm (n : Byte)
  /-- `ORA $nn` -/
  | oraZp (n : Byte)
  /-- `ORA $nn,X` -/
  | oraZpx (n : Byte)
  /-- `ORA $hhll` -/
  | oraAbs (w : Word)
  /-- `ORA $hhll,X` -/
  | oraAbx (w : Word)
  /-- `ORA $hhll,Y` -/
  | oraAby (w : Word)
  /-- `ORA ($nn,X)` -/
  | oraIzx (n : Byte)
  /-- `ORA ($nn),Y` -/
  | oraIzy (n : Byte)
  -- EOR (R159)
  /-- `EOR #$nn` -/
  | eorImm (n : Byte)
  /-- `EOR $nn` -/
  | eorZp (n : Byte)
  /-- `EOR $nn,X` -/
  | eorZpx (n : Byte)
  /-- `EOR $hhll` -/
  | eorAbs (w : Word)
  /-- `EOR $hhll,X` -/
  | eorAbx (w : Word)
  /-- `EOR $hhll,Y` -/
  | eorAby (w : Word)
  /-- `EOR ($nn,X)` -/
  | eorIzx (n : Byte)
  /-- `EOR ($nn),Y` -/
  | eorIzy (n : Byte)
  -- CMP (R160)
  /-- `CMP #$nn` -/
  | cmpImm (n : Byte)
  /-- `CMP $nn` -/
  | cmpZp (n : Byte)
  /-- `CMP $nn,X` -/
  | cmpZpx (n : Byte)
  /-- `CMP $hhll` -/
  | cmpAbs (w : Word)
  /-- `CMP $hhll,X` -/
  | cmpAbx (w : Word)
  /-- `CMP $hhll,Y` -/
  | cmpAby (w : Word)
  /-- `CMP ($nn,X)` -/
  | cmpIzx (n : Byte)
  /-- `CMP ($nn),Y` -/
  | cmpIzy (n : Byte)
  -- CPX (R161)
  /-- `CPX #$nn` -/
  | cpxImm (n : Byte)
  /-- `CPX $nn` -/
  | cpxZp (n : Byte)
  /-- `CPX $hhll` -/
  | cpxAbs (w : Word)
  -- CPY (R162)
  /-- `CPY #$nn` -/
  | cpyImm (n : Byte)
  /-- `CPY $nn` -/
  | cpyZp (n : Byte)
  /-- `CPY $hhll` -/
  | cpyAbs (w : Word)
  -- BIT (R163)
  /-- `BIT $nn` -/
  | bitZp (n : Byte)
  /-- `BIT $hhll` -/
  | bitAbs (w : Word)
  -- INC (R164)
  /-- `INC $nn` -/
  | incZp (n : Byte)
  /-- `INC $nn,X` -/
  | incZpx (n : Byte)
  /-- `INC $hhll` -/
  | incAbs (w : Word)
  /-- `INC $hhll,X` -/
  | incAbx (w : Word)
  -- DEC (R165)
  /-- `DEC $nn` -/
  | decZp (n : Byte)
  /-- `DEC $nn,X` -/
  | decZpx (n : Byte)
  /-- `DEC $hhll` -/
  | decAbs (w : Word)
  /-- `DEC $hhll,X` -/
  | decAbx (w : Word)
  -- INX (R166)
  /-- `INX` -/
  | inx
  -- INY (R167)
  /-- `INY` -/
  | iny
  -- DEX (R168)
  /-- `DEX` -/
  | dex
  -- DEY (R169)
  /-- `DEY` -/
  | dey
  -- ASL (R170)
  /-- `ASL A` -/
  | aslAcc
  /-- `ASL $nn` -/
  | aslZp (n : Byte)
  /-- `ASL $nn,X` -/
  | aslZpx (n : Byte)
  /-- `ASL $hhll` -/
  | aslAbs (w : Word)
  /-- `ASL $hhll,X` -/
  | aslAbx (w : Word)
  -- LSR (R171)
  /-- `LSR A` -/
  | lsrAcc
  /-- `LSR $nn` -/
  | lsrZp (n : Byte)
  /-- `LSR $nn,X` -/
  | lsrZpx (n : Byte)
  /-- `LSR $hhll` -/
  | lsrAbs (w : Word)
  /-- `LSR $hhll,X` -/
  | lsrAbx (w : Word)
  -- ROL (R172)
  /-- `ROL A` -/
  | rolAcc
  /-- `ROL $nn` -/
  | rolZp (n : Byte)
  /-- `ROL $nn,X` -/
  | rolZpx (n : Byte)
  /-- `ROL $hhll` -/
  | rolAbs (w : Word)
  /-- `ROL $hhll,X` -/
  | rolAbx (w : Word)
  -- ROR (R173)
  /-- `ROR A` -/
  | rorAcc
  /-- `ROR $nn` -/
  | rorZp (n : Byte)
  /-- `ROR $nn,X` -/
  | rorZpx (n : Byte)
  /-- `ROR $hhll` -/
  | rorAbs (w : Word)
  /-- `ROR $hhll,X` -/
  | rorAbx (w : Word)
  -- CLC (R190)
  /-- `CLC` -/
  | clc
  -- SEC (R191)
  /-- `SEC` -/
  | sec
  -- CLI (R192)
  /-- `CLI` -/
  | cli
  -- SEI (R193)
  /-- `SEI` -/
  | sei
  -- CLD (R194)
  /-- `CLD` -/
  | cld
  -- SED (R195)
  /-- `SED` -/
  | sed
  -- CLV (R196)
  /-- `CLV` -/
  | clv
  -- NOP (R197)
  /-- `NOP` -/
  | nop
  -- PHA (R200)
  /-- `PHA` -/
  | pha
  -- PLA (R201)
  /-- `PLA` -/
  | pla
  -- PHP (R202)
  /-- `PHP` -/
  | php
  -- PLP (R203)
  /-- `PLP` -/
  | plp
  -- JMP (R210)
  /-- `JMP $hhll` -/
  | jmpAbs (w : Word)
  /-- `JMP ($hhll)` -/
  | jmpInd (w : Word)
  -- JSR (R211)
  /-- `JSR $hhll` -/
  | jsr (w : Word)
  -- RTS (R212)
  /-- `RTS` -/
  | rts
  -- BCC (R214)
  /-- `BCC $nn (offset)` -/
  | bcc (n : Byte)
  -- BCS (R215)
  /-- `BCS $nn (offset)` -/
  | bcs (n : Byte)
  -- BEQ (R216)
  /-- `BEQ $nn (offset)` -/
  | beq (n : Byte)
  -- BMI (R217)
  /-- `BMI $nn (offset)` -/
  | bmi (n : Byte)
  -- BNE (R218)
  /-- `BNE $nn (offset)` -/
  | bne (n : Byte)
  -- BPL (R219)
  /-- `BPL $nn (offset)` -/
  | bpl (n : Byte)
  -- BVC (R220)
  /-- `BVC $nn (offset)` -/
  | bvc (n : Byte)
  -- BVS (R221)
  /-- `BVS $nn (offset)` -/
  | bvs (n : Byte)
  -- BRK (R222)
  /-- `BRK` -/
  | brk
  -- RTI (R223)
  /-- `RTI` -/
  | rti
deriving DecidableEq, Repr

end Sys2Proof
end

