-- ==== Sys2Proof/WellFormed.lean ====
section
/-! DEFINITION. Mnemonics, addressing modes and which pairs of the two are instructions (30_encoding.md R80, R84). Operands need
no check: every value of an operand byte or word is encodable (R83), and the types Byte and Word hold exactly those. -/

namespace Sys2Proof

/-- The 56 mnemonics (R84). -/
inductive Mnemonic where
  | adc | and | asl | bcc | bcs | beq | bit | bmi | bne | bpl | brk | bvc | bvs | clc
  | cld | cli | clv | cmp | cpx | cpy | dec | dex | dey | eor | inc | inx | iny | jmp
  | jsr | lda | ldx | ldy | lsr | nop | ora | pha | php | pla | plp | rol | ror | rti
  | rts | sbc | sec | sed | sei | sta | stx | sty | tax | tay | tsx | txa | txs | tya
deriving DecidableEq, Repr

/-- The 14 addressing modes (R80); `none` is the mode of an undefined byte. -/
inductive AddrMode where
  | implied | immediate | zeroPage | zeroPageX | zeroPageY | absolute | absoluteX | absoluteY | indirect | indirectX
  | indirectY | relative | accumulator | none
deriving DecidableEq, Repr

/-- The modes of each mnemonic: the filled cells of its row in R84. -/
def Mnemonic.modes : Mnemonic → List AddrMode
  | .adc => [.immediate, .zeroPage, .zeroPageX, .absolute, .absoluteX, .absoluteY, .indirectX, .indirectY]
  | .and => [.immediate, .zeroPage, .zeroPageX, .absolute, .absoluteX, .absoluteY, .indirectX, .indirectY]
  | .asl => [.accumulator, .zeroPage, .zeroPageX, .absolute, .absoluteX]
  | .bcc => [.relative]
  | .bcs => [.relative]
  | .beq => [.relative]
  | .bit => [.zeroPage, .absolute]
  | .bmi => [.relative]
  | .bne => [.relative]
  | .bpl => [.relative]
  | .brk => [.implied]
  | .bvc => [.relative]
  | .bvs => [.relative]
  | .clc => [.implied]
  | .cld => [.implied]
  | .cli => [.implied]
  | .clv => [.implied]
  | .cmp => [.immediate, .zeroPage, .zeroPageX, .absolute, .absoluteX, .absoluteY, .indirectX, .indirectY]
  | .cpx => [.immediate, .zeroPage, .absolute]
  | .cpy => [.immediate, .zeroPage, .absolute]
  | .dec => [.zeroPage, .zeroPageX, .absolute, .absoluteX]
  | .dex => [.implied]
  | .dey => [.implied]
  | .eor => [.immediate, .zeroPage, .zeroPageX, .absolute, .absoluteX, .absoluteY, .indirectX, .indirectY]
  | .inc => [.zeroPage, .zeroPageX, .absolute, .absoluteX]
  | .inx => [.implied]
  | .iny => [.implied]
  | .jmp => [.absolute, .indirect]
  | .jsr => [.absolute]
  | .lda => [.immediate, .zeroPage, .zeroPageX, .absolute, .absoluteX, .absoluteY, .indirectX, .indirectY]
  | .ldx => [.immediate, .zeroPage, .zeroPageY, .absolute, .absoluteY]
  | .ldy => [.immediate, .zeroPage, .zeroPageX, .absolute, .absoluteX]
  | .lsr => [.accumulator, .zeroPage, .zeroPageX, .absolute, .absoluteX]
  | .nop => [.implied]
  | .ora => [.immediate, .zeroPage, .zeroPageX, .absolute, .absoluteX, .absoluteY, .indirectX, .indirectY]
  | .pha => [.implied]
  | .php => [.implied]
  | .pla => [.implied]
  | .plp => [.implied]
  | .rol => [.accumulator, .zeroPage, .zeroPageX, .absolute, .absoluteX]
  | .ror => [.accumulator, .zeroPage, .zeroPageX, .absolute, .absoluteX]
  | .rti => [.implied]
  | .rts => [.implied]
  | .sbc => [.immediate, .zeroPage, .zeroPageX, .absolute, .absoluteX, .absoluteY, .indirectX, .indirectY]
  | .sec => [.implied]
  | .sed => [.implied]
  | .sei => [.implied]
  | .sta => [.zeroPage, .zeroPageX, .absolute, .absoluteX, .absoluteY, .indirectX, .indirectY]
  | .stx => [.zeroPage, .zeroPageY, .absolute]
  | .sty => [.zeroPage, .zeroPageX, .absolute]
  | .tax => [.implied]
  | .tay => [.implied]
  | .tsx => [.implied]
  | .txa => [.implied]
  | .txs => [.implied]
  | .tya => [.implied]

/-- A mnemonic and a mode, the pair an opcode byte selects (R86). -/
structure Form where
  mnemonic : Mnemonic
  mode : AddrMode
deriving DecidableEq, Repr

/-- The check: the pair is one of the 151 of R84. -/
def Form.wf (f : Form) : Bool := f.mnemonic.modes.contains f.mode

/-- The form of an instruction. -/
def Instr.form : Instr → Form
  | .ldaImm _ => ⟨.lda, .immediate⟩
  | .ldaZp _ => ⟨.lda, .zeroPage⟩
  | .ldaZpx _ => ⟨.lda, .zeroPageX⟩
  | .ldaAbs _ => ⟨.lda, .absolute⟩
  | .ldaAbx _ => ⟨.lda, .absoluteX⟩
  | .ldaAby _ => ⟨.lda, .absoluteY⟩
  | .ldaIzx _ => ⟨.lda, .indirectX⟩
  | .ldaIzy _ => ⟨.lda, .indirectY⟩
  | .ldxImm _ => ⟨.ldx, .immediate⟩
  | .ldxZp _ => ⟨.ldx, .zeroPage⟩
  | .ldxZpy _ => ⟨.ldx, .zeroPageY⟩
  | .ldxAbs _ => ⟨.ldx, .absolute⟩
  | .ldxAby _ => ⟨.ldx, .absoluteY⟩
  | .ldyImm _ => ⟨.ldy, .immediate⟩
  | .ldyZp _ => ⟨.ldy, .zeroPage⟩
  | .ldyZpx _ => ⟨.ldy, .zeroPageX⟩
  | .ldyAbs _ => ⟨.ldy, .absolute⟩
  | .ldyAbx _ => ⟨.ldy, .absoluteX⟩
  | .staZp _ => ⟨.sta, .zeroPage⟩
  | .staZpx _ => ⟨.sta, .zeroPageX⟩
  | .staAbs _ => ⟨.sta, .absolute⟩
  | .staAbx _ => ⟨.sta, .absoluteX⟩
  | .staAby _ => ⟨.sta, .absoluteY⟩
  | .staIzx _ => ⟨.sta, .indirectX⟩
  | .staIzy _ => ⟨.sta, .indirectY⟩
  | .stxZp _ => ⟨.stx, .zeroPage⟩
  | .stxZpy _ => ⟨.stx, .zeroPageY⟩
  | .stxAbs _ => ⟨.stx, .absolute⟩
  | .styZp _ => ⟨.sty, .zeroPage⟩
  | .styZpx _ => ⟨.sty, .zeroPageX⟩
  | .styAbs _ => ⟨.sty, .absolute⟩
  | .tax => ⟨.tax, .implied⟩
  | .tay => ⟨.tay, .implied⟩
  | .txa => ⟨.txa, .implied⟩
  | .tya => ⟨.tya, .implied⟩
  | .tsx => ⟨.tsx, .implied⟩
  | .txs => ⟨.txs, .implied⟩
  | .adcImm _ => ⟨.adc, .immediate⟩
  | .adcZp _ => ⟨.adc, .zeroPage⟩
  | .adcZpx _ => ⟨.adc, .zeroPageX⟩
  | .adcAbs _ => ⟨.adc, .absolute⟩
  | .adcAbx _ => ⟨.adc, .absoluteX⟩
  | .adcAby _ => ⟨.adc, .absoluteY⟩
  | .adcIzx _ => ⟨.adc, .indirectX⟩
  | .adcIzy _ => ⟨.adc, .indirectY⟩
  | .sbcImm _ => ⟨.sbc, .immediate⟩
  | .sbcZp _ => ⟨.sbc, .zeroPage⟩
  | .sbcZpx _ => ⟨.sbc, .zeroPageX⟩
  | .sbcAbs _ => ⟨.sbc, .absolute⟩
  | .sbcAbx _ => ⟨.sbc, .absoluteX⟩
  | .sbcAby _ => ⟨.sbc, .absoluteY⟩
  | .sbcIzx _ => ⟨.sbc, .indirectX⟩
  | .sbcIzy _ => ⟨.sbc, .indirectY⟩
  | .andImm _ => ⟨.and, .immediate⟩
  | .andZp _ => ⟨.and, .zeroPage⟩
  | .andZpx _ => ⟨.and, .zeroPageX⟩
  | .andAbs _ => ⟨.and, .absolute⟩
  | .andAbx _ => ⟨.and, .absoluteX⟩
  | .andAby _ => ⟨.and, .absoluteY⟩
  | .andIzx _ => ⟨.and, .indirectX⟩
  | .andIzy _ => ⟨.and, .indirectY⟩
  | .oraImm _ => ⟨.ora, .immediate⟩
  | .oraZp _ => ⟨.ora, .zeroPage⟩
  | .oraZpx _ => ⟨.ora, .zeroPageX⟩
  | .oraAbs _ => ⟨.ora, .absolute⟩
  | .oraAbx _ => ⟨.ora, .absoluteX⟩
  | .oraAby _ => ⟨.ora, .absoluteY⟩
  | .oraIzx _ => ⟨.ora, .indirectX⟩
  | .oraIzy _ => ⟨.ora, .indirectY⟩
  | .eorImm _ => ⟨.eor, .immediate⟩
  | .eorZp _ => ⟨.eor, .zeroPage⟩
  | .eorZpx _ => ⟨.eor, .zeroPageX⟩
  | .eorAbs _ => ⟨.eor, .absolute⟩
  | .eorAbx _ => ⟨.eor, .absoluteX⟩
  | .eorAby _ => ⟨.eor, .absoluteY⟩
  | .eorIzx _ => ⟨.eor, .indirectX⟩
  | .eorIzy _ => ⟨.eor, .indirectY⟩
  | .cmpImm _ => ⟨.cmp, .immediate⟩
  | .cmpZp _ => ⟨.cmp, .zeroPage⟩
  | .cmpZpx _ => ⟨.cmp, .zeroPageX⟩
  | .cmpAbs _ => ⟨.cmp, .absolute⟩
  | .cmpAbx _ => ⟨.cmp, .absoluteX⟩
  | .cmpAby _ => ⟨.cmp, .absoluteY⟩
  | .cmpIzx _ => ⟨.cmp, .indirectX⟩
  | .cmpIzy _ => ⟨.cmp, .indirectY⟩
  | .cpxImm _ => ⟨.cpx, .immediate⟩
  | .cpxZp _ => ⟨.cpx, .zeroPage⟩
  | .cpxAbs _ => ⟨.cpx, .absolute⟩
  | .cpyImm _ => ⟨.cpy, .immediate⟩
  | .cpyZp _ => ⟨.cpy, .zeroPage⟩
  | .cpyAbs _ => ⟨.cpy, .absolute⟩
  | .bitZp _ => ⟨.bit, .zeroPage⟩
  | .bitAbs _ => ⟨.bit, .absolute⟩
  | .incZp _ => ⟨.inc, .zeroPage⟩
  | .incZpx _ => ⟨.inc, .zeroPageX⟩
  | .incAbs _ => ⟨.inc, .absolute⟩
  | .incAbx _ => ⟨.inc, .absoluteX⟩
  | .decZp _ => ⟨.dec, .zeroPage⟩
  | .decZpx _ => ⟨.dec, .zeroPageX⟩
  | .decAbs _ => ⟨.dec, .absolute⟩
  | .decAbx _ => ⟨.dec, .absoluteX⟩
  | .inx => ⟨.inx, .implied⟩
  | .iny => ⟨.iny, .implied⟩
  | .dex => ⟨.dex, .implied⟩
  | .dey => ⟨.dey, .implied⟩
  | .aslAcc => ⟨.asl, .accumulator⟩
  | .aslZp _ => ⟨.asl, .zeroPage⟩
  | .aslZpx _ => ⟨.asl, .zeroPageX⟩
  | .aslAbs _ => ⟨.asl, .absolute⟩
  | .aslAbx _ => ⟨.asl, .absoluteX⟩
  | .lsrAcc => ⟨.lsr, .accumulator⟩
  | .lsrZp _ => ⟨.lsr, .zeroPage⟩
  | .lsrZpx _ => ⟨.lsr, .zeroPageX⟩
  | .lsrAbs _ => ⟨.lsr, .absolute⟩
  | .lsrAbx _ => ⟨.lsr, .absoluteX⟩
  | .rolAcc => ⟨.rol, .accumulator⟩
  | .rolZp _ => ⟨.rol, .zeroPage⟩
  | .rolZpx _ => ⟨.rol, .zeroPageX⟩
  | .rolAbs _ => ⟨.rol, .absolute⟩
  | .rolAbx _ => ⟨.rol, .absoluteX⟩
  | .rorAcc => ⟨.ror, .accumulator⟩
  | .rorZp _ => ⟨.ror, .zeroPage⟩
  | .rorZpx _ => ⟨.ror, .zeroPageX⟩
  | .rorAbs _ => ⟨.ror, .absolute⟩
  | .rorAbx _ => ⟨.ror, .absoluteX⟩
  | .clc => ⟨.clc, .implied⟩
  | .sec => ⟨.sec, .implied⟩
  | .cli => ⟨.cli, .implied⟩
  | .sei => ⟨.sei, .implied⟩
  | .cld => ⟨.cld, .implied⟩
  | .sed => ⟨.sed, .implied⟩
  | .clv => ⟨.clv, .implied⟩
  | .nop => ⟨.nop, .implied⟩
  | .pha => ⟨.pha, .implied⟩
  | .pla => ⟨.pla, .implied⟩
  | .php => ⟨.php, .implied⟩
  | .plp => ⟨.plp, .implied⟩
  | .jmpAbs _ => ⟨.jmp, .absolute⟩
  | .jmpInd _ => ⟨.jmp, .indirect⟩
  | .jsr _ => ⟨.jsr, .absolute⟩
  | .rts => ⟨.rts, .implied⟩
  | .bcc _ => ⟨.bcc, .relative⟩
  | .bcs _ => ⟨.bcs, .relative⟩
  | .beq _ => ⟨.beq, .relative⟩
  | .bmi _ => ⟨.bmi, .relative⟩
  | .bne _ => ⟨.bne, .relative⟩
  | .bpl _ => ⟨.bpl, .relative⟩
  | .bvc _ => ⟨.bvc, .relative⟩
  | .bvs _ => ⟨.bvs, .relative⟩
  | .brk => ⟨.brk, .implied⟩
  | .rti => ⟨.rti, .implied⟩

/-- The mnemonic of an instruction. -/
def Instr.mnemonic (i : Instr) : Mnemonic := i.form.mnemonic

/-- The addressing mode of an instruction. -/
def Instr.mode (i : Instr) : AddrMode := i.form.mode

/-- A well-formed instruction: its form is defined (R84). Its operands are encodable by their types. -/
def Instr.wf (i : Instr) : Bool := i.form.wf

end Sys2Proof
end

