-- ==== Sys2Proof/Decode.lean ====
section
/-! DEFINITION. instruction_decoder (30_encoding.md): bytes to an instruction, total, an undefined byte rejected by name; then
the encoder. The decoder is written by opcode byte from the opcode map of R86, the encoder by mnemonic from the table of R84. -/

namespace Sys2Proof

open Machine (lo hi wordOf)

/-- `pc_offset(mode)`, the length in bytes with the opcode byte (R81). -/
def pcOffset : AddrMode → Nat
  | .implied | .accumulator => 1
  | .immediate | .zeroPage | .zeroPageX | .zeroPageY | .relative | .indirectX | .indirectY => 2
  | .absolute | .absoluteX | .absoluteY | .indirect => 3
  | .none => 1

/-- The three formats (R82), each with the instruction its operand bytes complete. -/
inductive OpcodeRow where
  | f1 (i : Instr)
  | f2 (i : Byte → Instr)
  | f3 (i : Word → Instr)

/-- What an opcode byte selects; `none` for the 105 undefined bytes (R84, R85). -/
def opcodeRow (op : Byte) : Option OpcodeRow :=
  match op.toNat with
  | 0x00 => some (.f1 .brk)
  | 0x01 => some (.f2 .oraIzx)
  | 0x05 => some (.f2 .oraZp)
  | 0x06 => some (.f2 .aslZp)
  | 0x08 => some (.f1 .php)
  | 0x09 => some (.f2 .oraImm)
  | 0x0A => some (.f1 .aslAcc)
  | 0x0D => some (.f3 .oraAbs)
  | 0x0E => some (.f3 .aslAbs)
  | 0x10 => some (.f2 .bpl)
  | 0x11 => some (.f2 .oraIzy)
  | 0x15 => some (.f2 .oraZpx)
  | 0x16 => some (.f2 .aslZpx)
  | 0x18 => some (.f1 .clc)
  | 0x19 => some (.f3 .oraAby)
  | 0x1D => some (.f3 .oraAbx)
  | 0x1E => some (.f3 .aslAbx)
  | 0x20 => some (.f3 .jsr)
  | 0x21 => some (.f2 .andIzx)
  | 0x24 => some (.f2 .bitZp)
  | 0x25 => some (.f2 .andZp)
  | 0x26 => some (.f2 .rolZp)
  | 0x28 => some (.f1 .plp)
  | 0x29 => some (.f2 .andImm)
  | 0x2A => some (.f1 .rolAcc)
  | 0x2C => some (.f3 .bitAbs)
  | 0x2D => some (.f3 .andAbs)
  | 0x2E => some (.f3 .rolAbs)
  | 0x30 => some (.f2 .bmi)
  | 0x31 => some (.f2 .andIzy)
  | 0x35 => some (.f2 .andZpx)
  | 0x36 => some (.f2 .rolZpx)
  | 0x38 => some (.f1 .sec)
  | 0x39 => some (.f3 .andAby)
  | 0x3D => some (.f3 .andAbx)
  | 0x3E => some (.f3 .rolAbx)
  | 0x40 => some (.f1 .rti)
  | 0x41 => some (.f2 .eorIzx)
  | 0x45 => some (.f2 .eorZp)
  | 0x46 => some (.f2 .lsrZp)
  | 0x48 => some (.f1 .pha)
  | 0x49 => some (.f2 .eorImm)
  | 0x4A => some (.f1 .lsrAcc)
  | 0x4C => some (.f3 .jmpAbs)
  | 0x4D => some (.f3 .eorAbs)
  | 0x4E => some (.f3 .lsrAbs)
  | 0x50 => some (.f2 .bvc)
  | 0x51 => some (.f2 .eorIzy)
  | 0x55 => some (.f2 .eorZpx)
  | 0x56 => some (.f2 .lsrZpx)
  | 0x58 => some (.f1 .cli)
  | 0x59 => some (.f3 .eorAby)
  | 0x5D => some (.f3 .eorAbx)
  | 0x5E => some (.f3 .lsrAbx)
  | 0x60 => some (.f1 .rts)
  | 0x61 => some (.f2 .adcIzx)
  | 0x65 => some (.f2 .adcZp)
  | 0x66 => some (.f2 .rorZp)
  | 0x68 => some (.f1 .pla)
  | 0x69 => some (.f2 .adcImm)
  | 0x6A => some (.f1 .rorAcc)
  | 0x6C => some (.f3 .jmpInd)
  | 0x6D => some (.f3 .adcAbs)
  | 0x6E => some (.f3 .rorAbs)
  | 0x70 => some (.f2 .bvs)
  | 0x71 => some (.f2 .adcIzy)
  | 0x75 => some (.f2 .adcZpx)
  | 0x76 => some (.f2 .rorZpx)
  | 0x78 => some (.f1 .sei)
  | 0x79 => some (.f3 .adcAby)
  | 0x7D => some (.f3 .adcAbx)
  | 0x7E => some (.f3 .rorAbx)
  | 0x81 => some (.f2 .staIzx)
  | 0x84 => some (.f2 .styZp)
  | 0x85 => some (.f2 .staZp)
  | 0x86 => some (.f2 .stxZp)
  | 0x88 => some (.f1 .dey)
  | 0x8A => some (.f1 .txa)
  | 0x8C => some (.f3 .styAbs)
  | 0x8D => some (.f3 .staAbs)
  | 0x8E => some (.f3 .stxAbs)
  | 0x90 => some (.f2 .bcc)
  | 0x91 => some (.f2 .staIzy)
  | 0x94 => some (.f2 .styZpx)
  | 0x95 => some (.f2 .staZpx)
  | 0x96 => some (.f2 .stxZpy)
  | 0x98 => some (.f1 .tya)
  | 0x99 => some (.f3 .staAby)
  | 0x9A => some (.f1 .txs)
  | 0x9D => some (.f3 .staAbx)
  | 0xA0 => some (.f2 .ldyImm)
  | 0xA1 => some (.f2 .ldaIzx)
  | 0xA2 => some (.f2 .ldxImm)
  | 0xA4 => some (.f2 .ldyZp)
  | 0xA5 => some (.f2 .ldaZp)
  | 0xA6 => some (.f2 .ldxZp)
  | 0xA8 => some (.f1 .tay)
  | 0xA9 => some (.f2 .ldaImm)
  | 0xAA => some (.f1 .tax)
  | 0xAC => some (.f3 .ldyAbs)
  | 0xAD => some (.f3 .ldaAbs)
  | 0xAE => some (.f3 .ldxAbs)
  | 0xB0 => some (.f2 .bcs)
  | 0xB1 => some (.f2 .ldaIzy)
  | 0xB4 => some (.f2 .ldyZpx)
  | 0xB5 => some (.f2 .ldaZpx)
  | 0xB6 => some (.f2 .ldxZpy)
  | 0xB8 => some (.f1 .clv)
  | 0xB9 => some (.f3 .ldaAby)
  | 0xBA => some (.f1 .tsx)
  | 0xBC => some (.f3 .ldyAbx)
  | 0xBD => some (.f3 .ldaAbx)
  | 0xBE => some (.f3 .ldxAby)
  | 0xC0 => some (.f2 .cpyImm)
  | 0xC1 => some (.f2 .cmpIzx)
  | 0xC4 => some (.f2 .cpyZp)
  | 0xC5 => some (.f2 .cmpZp)
  | 0xC6 => some (.f2 .decZp)
  | 0xC8 => some (.f1 .iny)
  | 0xC9 => some (.f2 .cmpImm)
  | 0xCA => some (.f1 .dex)
  | 0xCC => some (.f3 .cpyAbs)
  | 0xCD => some (.f3 .cmpAbs)
  | 0xCE => some (.f3 .decAbs)
  | 0xD0 => some (.f2 .bne)
  | 0xD1 => some (.f2 .cmpIzy)
  | 0xD5 => some (.f2 .cmpZpx)
  | 0xD6 => some (.f2 .decZpx)
  | 0xD8 => some (.f1 .cld)
  | 0xD9 => some (.f3 .cmpAby)
  | 0xDD => some (.f3 .cmpAbx)
  | 0xDE => some (.f3 .decAbx)
  | 0xE0 => some (.f2 .cpxImm)
  | 0xE1 => some (.f2 .sbcIzx)
  | 0xE4 => some (.f2 .cpxZp)
  | 0xE5 => some (.f2 .sbcZp)
  | 0xE6 => some (.f2 .incZp)
  | 0xE8 => some (.f1 .inx)
  | 0xE9 => some (.f2 .sbcImm)
  | 0xEA => some (.f1 .nop)
  | 0xEC => some (.f3 .cpxAbs)
  | 0xED => some (.f3 .sbcAbs)
  | 0xEE => some (.f3 .incAbs)
  | 0xF0 => some (.f2 .beq)
  | 0xF1 => some (.f2 .sbcIzy)
  | 0xF5 => some (.f2 .sbcZpx)
  | 0xF6 => some (.f2 .incZpx)
  | 0xF8 => some (.f1 .sed)
  | 0xF9 => some (.f3 .sbcAby)
  | 0xFD => some (.f3 .sbcAbx)
  | 0xFE => some (.f3 .incAbx)
  | _ => none

/-- Why a byte sequence is no instruction. -/
inductive DecodeReject where
  /-- The first byte is one of the 105 undefined opcodes (R85). -/
  | undefinedOpcode (op : Byte)
  /-- The sequence ends before the instruction does. -/
  | truncated
deriving DecidableEq, Repr

/-- What the decoder answers: an instruction with the bytes after it, or a rejection by name. -/
inductive Decoded where
  | instr (i : Instr) (rest : List Byte)
  | reject (r : DecodeReject)
deriving DecidableEq, Repr

/-- The instruction at the head of a byte sequence, with the bytes after it. Operand words lie low byte first (R82). -/
def decode : List Byte → Decoded
  | [] => .reject .truncated
  | op :: rest =>
    match opcodeRow op, rest with
    | none, _ => .reject (.undefinedOpcode op)
    | some (.f1 i), rest => .instr i rest
    | some (.f2 i), n :: rest => .instr (i n) rest
    | some (.f3 i), l :: h :: rest => .instr (i (wordOf h l)) rest
    | some _, _ => .reject .truncated

/-- The form an opcode byte selects, `Unknown` being `none` (R86). -/
def opcodeForm (op : Byte) : Option Form :=
  match opcodeRow op with
  | none => none
  | some (.f1 i) => some i.form
  | some (.f2 i) => some (i 0#8).form
  | some (.f3 i) => some (i 0#16).form

/-- `get_addr_mode(opcode)`: total, undefined bytes map to `none` (R80). -/
def addrMode (op : Byte) : AddrMode :=
  match opcodeForm op with
  | none => .none
  | some f => f.mode

/-- Byte `k` of a table word whose bits above `nbits` are 0. -/
def tableByte (nbits w k : Nat) : Byte := BitVec.ofNat 8 (w % 2 ^ nbits / 2 ^ (8 * k))

/-- The three bytes of a table word, in address order: the longest instruction has three (R82). -/
def tableBytes (nbits w : Nat) : List Byte := [tableByte nbits w 0, tableByte nbits w 1, tableByte nbits w 2]

/-- The instruction the decoder reads from a table word; `none` where it rejects. -/
def decodeTableWord (nbits w : Nat) : Option Instr :=
  match decode (tableBytes nbits w) with
  | .instr i _ => some i
  | .reject _ => none

/-- The bytes of an instruction, in address order (R82, R84). -/
def encode : Instr → List Byte
  | .ldaImm n => [0xA9#8, n]
  | .ldaZp n => [0xA5#8, n]
  | .ldaZpx n => [0xB5#8, n]
  | .ldaAbs w => [0xAD#8, lo w, hi w]
  | .ldaAbx w => [0xBD#8, lo w, hi w]
  | .ldaAby w => [0xB9#8, lo w, hi w]
  | .ldaIzx n => [0xA1#8, n]
  | .ldaIzy n => [0xB1#8, n]
  | .ldxImm n => [0xA2#8, n]
  | .ldxZp n => [0xA6#8, n]
  | .ldxZpy n => [0xB6#8, n]
  | .ldxAbs w => [0xAE#8, lo w, hi w]
  | .ldxAby w => [0xBE#8, lo w, hi w]
  | .ldyImm n => [0xA0#8, n]
  | .ldyZp n => [0xA4#8, n]
  | .ldyZpx n => [0xB4#8, n]
  | .ldyAbs w => [0xAC#8, lo w, hi w]
  | .ldyAbx w => [0xBC#8, lo w, hi w]
  | .staZp n => [0x85#8, n]
  | .staZpx n => [0x95#8, n]
  | .staAbs w => [0x8D#8, lo w, hi w]
  | .staAbx w => [0x9D#8, lo w, hi w]
  | .staAby w => [0x99#8, lo w, hi w]
  | .staIzx n => [0x81#8, n]
  | .staIzy n => [0x91#8, n]
  | .stxZp n => [0x86#8, n]
  | .stxZpy n => [0x96#8, n]
  | .stxAbs w => [0x8E#8, lo w, hi w]
  | .styZp n => [0x84#8, n]
  | .styZpx n => [0x94#8, n]
  | .styAbs w => [0x8C#8, lo w, hi w]
  | .tax => [0xAA#8]
  | .tay => [0xA8#8]
  | .txa => [0x8A#8]
  | .tya => [0x98#8]
  | .tsx => [0xBA#8]
  | .txs => [0x9A#8]
  | .adcImm n => [0x69#8, n]
  | .adcZp n => [0x65#8, n]
  | .adcZpx n => [0x75#8, n]
  | .adcAbs w => [0x6D#8, lo w, hi w]
  | .adcAbx w => [0x7D#8, lo w, hi w]
  | .adcAby w => [0x79#8, lo w, hi w]
  | .adcIzx n => [0x61#8, n]
  | .adcIzy n => [0x71#8, n]
  | .sbcImm n => [0xE9#8, n]
  | .sbcZp n => [0xE5#8, n]
  | .sbcZpx n => [0xF5#8, n]
  | .sbcAbs w => [0xED#8, lo w, hi w]
  | .sbcAbx w => [0xFD#8, lo w, hi w]
  | .sbcAby w => [0xF9#8, lo w, hi w]
  | .sbcIzx n => [0xE1#8, n]
  | .sbcIzy n => [0xF1#8, n]
  | .andImm n => [0x29#8, n]
  | .andZp n => [0x25#8, n]
  | .andZpx n => [0x35#8, n]
  | .andAbs w => [0x2D#8, lo w, hi w]
  | .andAbx w => [0x3D#8, lo w, hi w]
  | .andAby w => [0x39#8, lo w, hi w]
  | .andIzx n => [0x21#8, n]
  | .andIzy n => [0x31#8, n]
  | .oraImm n => [0x09#8, n]
  | .oraZp n => [0x05#8, n]
  | .oraZpx n => [0x15#8, n]
  | .oraAbs w => [0x0D#8, lo w, hi w]
  | .oraAbx w => [0x1D#8, lo w, hi w]
  | .oraAby w => [0x19#8, lo w, hi w]
  | .oraIzx n => [0x01#8, n]
  | .oraIzy n => [0x11#8, n]
  | .eorImm n => [0x49#8, n]
  | .eorZp n => [0x45#8, n]
  | .eorZpx n => [0x55#8, n]
  | .eorAbs w => [0x4D#8, lo w, hi w]
  | .eorAbx w => [0x5D#8, lo w, hi w]
  | .eorAby w => [0x59#8, lo w, hi w]
  | .eorIzx n => [0x41#8, n]
  | .eorIzy n => [0x51#8, n]
  | .cmpImm n => [0xC9#8, n]
  | .cmpZp n => [0xC5#8, n]
  | .cmpZpx n => [0xD5#8, n]
  | .cmpAbs w => [0xCD#8, lo w, hi w]
  | .cmpAbx w => [0xDD#8, lo w, hi w]
  | .cmpAby w => [0xD9#8, lo w, hi w]
  | .cmpIzx n => [0xC1#8, n]
  | .cmpIzy n => [0xD1#8, n]
  | .cpxImm n => [0xE0#8, n]
  | .cpxZp n => [0xE4#8, n]
  | .cpxAbs w => [0xEC#8, lo w, hi w]
  | .cpyImm n => [0xC0#8, n]
  | .cpyZp n => [0xC4#8, n]
  | .cpyAbs w => [0xCC#8, lo w, hi w]
  | .bitZp n => [0x24#8, n]
  | .bitAbs w => [0x2C#8, lo w, hi w]
  | .incZp n => [0xE6#8, n]
  | .incZpx n => [0xF6#8, n]
  | .incAbs w => [0xEE#8, lo w, hi w]
  | .incAbx w => [0xFE#8, lo w, hi w]
  | .decZp n => [0xC6#8, n]
  | .decZpx n => [0xD6#8, n]
  | .decAbs w => [0xCE#8, lo w, hi w]
  | .decAbx w => [0xDE#8, lo w, hi w]
  | .inx => [0xE8#8]
  | .iny => [0xC8#8]
  | .dex => [0xCA#8]
  | .dey => [0x88#8]
  | .aslAcc => [0x0A#8]
  | .aslZp n => [0x06#8, n]
  | .aslZpx n => [0x16#8, n]
  | .aslAbs w => [0x0E#8, lo w, hi w]
  | .aslAbx w => [0x1E#8, lo w, hi w]
  | .lsrAcc => [0x4A#8]
  | .lsrZp n => [0x46#8, n]
  | .lsrZpx n => [0x56#8, n]
  | .lsrAbs w => [0x4E#8, lo w, hi w]
  | .lsrAbx w => [0x5E#8, lo w, hi w]
  | .rolAcc => [0x2A#8]
  | .rolZp n => [0x26#8, n]
  | .rolZpx n => [0x36#8, n]
  | .rolAbs w => [0x2E#8, lo w, hi w]
  | .rolAbx w => [0x3E#8, lo w, hi w]
  | .rorAcc => [0x6A#8]
  | .rorZp n => [0x66#8, n]
  | .rorZpx n => [0x76#8, n]
  | .rorAbs w => [0x6E#8, lo w, hi w]
  | .rorAbx w => [0x7E#8, lo w, hi w]
  | .clc => [0x18#8]
  | .sec => [0x38#8]
  | .cli => [0x58#8]
  | .sei => [0x78#8]
  | .cld => [0xD8#8]
  | .sed => [0xF8#8]
  | .clv => [0xB8#8]
  | .nop => [0xEA#8]
  | .pha => [0x48#8]
  | .pla => [0x68#8]
  | .php => [0x08#8]
  | .plp => [0x28#8]
  | .jmpAbs w => [0x4C#8, lo w, hi w]
  | .jmpInd w => [0x6C#8, lo w, hi w]
  | .jsr w => [0x20#8, lo w, hi w]
  | .rts => [0x60#8]
  | .bcc n => [0x90#8, n]
  | .bcs n => [0xB0#8, n]
  | .beq n => [0xF0#8, n]
  | .bmi n => [0x30#8, n]
  | .bne n => [0xD0#8, n]
  | .bpl n => [0x10#8, n]
  | .bvc n => [0x50#8, n]
  | .bvs n => [0x70#8, n]
  | .brk => [0x00#8]
  | .rti => [0x40#8]

end Sys2Proof
end

