-- ==== Sys2Proof/Config.lean ====
section
/-! DEFINITION. What the spec fixes for every core: the addresses of 20_memory.md R58. The two parameters the spec leaves
OPEN (`SP_INIT`, `INIT_MEM`, 00_scope.md R5) are arguments of boot; the values State.reset takes stand in
Machine/Params.lean. No result of an instruction is left open, so there is no free value here. -/

namespace Sys2Proof.Config

/-- `size()`: the bytes of the address space (R5, R50). -/
def memorySize : Nat := 65536

/-- The program base address, where boot maps the ROM image (R58, R270). -/
def programBase : Word := 0x0000#16

/-- The stack page; the stack byte is at `stackPage + SP` (R5, R28). -/
def stackPage : Word := 0x0100#16

/-- The NMI vector (R252). -/
def nmiVector : Word := 0xFFFA#16

/-- The reset vector (R252). -/
def resetVector : Word := 0xFFFC#16

/-- The vector of IRQ and BRK (R252). -/
def irqVector : Word := 0xFFFE#16

end Sys2Proof.Config
end

