-- ==== Sys2Proof/Machine/Params.lean ====
section
/-! DEFINITION. The values State.reset takes for the two parameters the spec leaves OPEN (00_scope.md R5). No statement
rests on them: boot takes SP_INIT as an argument and INIT_MEM as the unbooted core's memory. -/

namespace Sys2Proof.Config

/-- `SP_INIT` in State.reset. DESIGN CHOICE, unsafe (log entry 1): 92_eei_decisions.md D3 leaves it OPEN. -/
def spInit : Byte := 0x00#8

/-- What an address nothing has written reads as. DESIGN CHOICE, unsafe (log entry 2): `INIT_MEM` is OPEN
(92_eei_decisions.md D11). -/
def unlistedByte : Byte := 0x00#8

end Sys2Proof.Config
end

