-- ==== Sys2Proof/Machine/State.lean ====
section
/-! DEFINITION. The state of the core (10_state.md): the register file, the engine state and the memory, as plain data;
the reasons a call stops; the state right after reset. -/

namespace Sys2Proof.Machine

/-- The causes of a fatal error (60_exceptions.md R240). -/
inductive FatalCause where
  | unknownOpcode
  | unimplementedFeature
  | malformedRom
deriving DecidableEq, Repr

/-- What Fatal records (10_state.md R31): the cause, the opcode byte that raised it, the address it was fetched from. -/
structure FatalRecord where
  cause : FatalCause
  opcode : Byte
  pc : Word
deriving DecidableEq, Repr

/-- The execution state `Run` (10_state.md R30). Boot and InterruptEntry are completed inside one host call, so they are no
values of it. -/
inductive RunState where
  | unbooted
  | steady
  | fatal (r : FatalRecord)
deriving DecidableEq, Repr

/-- Memory: (address, byte) pairs, addresses strictly rising, none equal to `Config.unlistedByte` (`Memory.wf`). -/
abbrev Memory := List Host.Cell

/-- Everything the spec gives the core (10_state.md R20, R30 to R32; 20_memory.md R50). -/
structure State where
  /-- PC (R29). -/
  pc : Word
  /-- SP (R28). -/
  sp : Byte
  /-- A (R21). -/
  a : Byte
  /-- X (R22). -/
  x : Byte
  /-- Y (R23). -/
  y : Byte
  /-- P (R24): software reads and writes it whole, so it stays eight bits; Flags.lean names them. -/
  p : Byte
  /-- The 64 KB memory (R50). -/
  mem : Memory
  /-- Run, with Fatal's record (R30, R31). -/
  run : RunState
deriving DecidableEq, Repr

/-- Why a call ends with an error. -/
inductive Fault where
  /-- Raised by `step` (`execute()`) and `run(n)` on a core that is already Fatal: the recorded error is returned and nothing
  changes (60_exceptions.md R243). Safe: the spec gives the same answer. -/
  | fatal (r : FatalRecord)
  /-- Raised by `boot` when the image is longer than memory: nothing is written and the core stays Unbooted
  (70_reset_and_hazards.md R271). Safe: the spec gives the same answer. -/
  | malformedRom
deriving DecidableEq, Repr

/-- Why a call is outside the model. -/
inductive Refusal where
  /-- An instruction without a meaning; no arm of exec answers it. Safe. -/
  | notModelled (mnemonic : String)
  /-- `execute`, `run`, `interrupt` and `non_maskable_interrupt` on an Unbooted core: the spec asks a model to refuse
  (10_state.md R34). Safe. -/
  | unbooted
  /-- `boot` on a core that is Steady or Fatal: the spec asks a model to refuse (70_reset_and_hazards.md R273). Safe. -/
  | bootTwice
deriving DecidableEq, Repr

/-- The outcome of a call on the core. -/
abbrev Out := Host.Outcome State Fault Refusal

/-- The core right after reset (10_state.md R33): A, X, Y are 0, P is 0x04, Run is Steady, PC is the word at the reset vector.
The ROM image is the empty one, so memory lists nothing and that word is made of unlisted bytes (log entries 1 to 3). -/
def State.reset : State where
  pc := wordOf Config.unlistedByte Config.unlistedByte
  sp := Config.spInit
  a := 0x00#8
  x := 0x00#8
  y := 0x00#8
  p := 0x04#8
  mem := []
  run := .steady

end Sys2Proof.Machine
end

