-- ==== Sys2Proof/Machine/Registers.lean ====
section
/-! DEFINITION. One write operation per register (00_scope.md R13: `A <- v`). -/

namespace Sys2Proof.Machine

/-- `PC <- v`. -/
def State.setPc (s : State) (v : Word) : State := { s with pc := v }

/-- `SP <- v`. -/
def State.setSp (s : State) (v : Byte) : State := { s with sp := v }

/-- `A <- v`. -/
def State.setA (s : State) (v : Byte) : State := { s with a := v }

/-- `X <- v`. -/
def State.setX (s : State) (v : Byte) : State := { s with x := v }

/-- `Y <- v`. -/
def State.setY (s : State) (v : Byte) : State := { s with y := v }

/-- `P <- v`, all eight bits (10_state.md R35). -/
def State.setP (s : State) (v : Byte) : State := { s with p := v }

/-- Memory after a write. -/
def State.setMem (s : State) (m : Memory) : State := { s with mem := m }

/-- `Run <- r`. -/
def State.setRun (s : State) (r : RunState) : State := { s with run := r }

end Sys2Proof.Machine
end

