-- ==== Sys2Proof/Machine/Flags.lean ====
section
/-! DEFINITION. flag_unit and alu_6502: the flags of P (10_state.md R24, R35) and the arithmetic functions of 42_alu.md R150
to R153 and R170 to R173, computed on exact integers and narrowed at the end. -/

namespace Sys2Proof.Machine

/-- The seven named flags of P. Bit 5 is unused (R27). -/
inductive PFlag where
  | c | z | i | d | b | v | n
deriving DecidableEq, Repr

/-- The bit of P that holds a flag (R24). -/
def PFlag.bit : PFlag → Nat
  | .c => 0
  | .z => 1
  | .i => 2
  | .d => 3
  | .b => 4
  | .v => 6
  | .n => 7

/-- `P.f`, read. -/
def State.flag (s : State) (f : PFlag) : Bool := s.p.getLsbD f.bit

/-- `P[5]`, the unused bit, a storage bit (00_scope.md R13, 10_state.md R27). -/
def State.bit5 (s : State) : Bool := s.p.getLsbD 5

/-- A status byte with one flag written. -/
def putFlag (p : Byte) (f : PFlag) (b : Bool) : Byte :=
  if b then p ||| (1#8 <<< f.bit) else p &&& ~~~(1#8 <<< f.bit)

/-- `P.f <- b`. -/
def State.setFlag (s : State) (f : PFlag) (b : Bool) : State := s.setP (putFlag s.p f b)

/-- `SetNZ(v)`: `P.Z <- (v == 0); P.N <- v[7]` (R150). -/
def State.setNZ (s : State) (v : Byte) : State := (s.setFlag .z (v == 0#8)).setFlag .n (v.getLsbD 7)

/-- Result byte, carry and overflow of the adder. -/
structure AluSum where
  value : Byte
  carry : Bool
  overflow : Bool
deriving DecidableEq, Repr

/-- Outside the signed byte range, the V of R151. -/
def outsideSigned (v : Int) : Bool := !(decide (-128 ≤ v) && decide (v ≤ 127))

/-- `Add(a, m, c)` (R151). -/
def addWithCarry (a m : Byte) (c : Bool) : AluSum where
  value := BitVec.ofNat 8 (a.toNat + m.toNat + c.toNat)
  carry := decide (256 ≤ a.toNat + m.toNat + c.toNat)
  overflow := outsideSigned (a.toInt + m.toInt + c.toNat)

/-- `Sub(a, m, c)` (R151): the borrow is `1 - c`. -/
def subWithBorrow (a m : Byte) (c : Bool) : AluSum where
  value := BitVec.ofInt 8 ((a.toNat : Int) - m.toNat - (1 - c.toNat))
  carry := decide (0 ≤ (a.toNat : Int) - m.toNat - (1 - c.toNat))
  overflow := outsideSigned (a.toInt - m.toInt - (1 - c.toNat))

/-- `Compare(r, m)` (R153): C, Z and N of the byte difference; V is left alone. -/
def State.compare (s : State) (r m : Byte) : State :=
  ((s.setFlag .c (decide (m.toNat ≤ r.toNat))).setFlag .z (r == m)).setFlag .n ((r - m).getLsbD 7)

/-- Result byte and the bit shifted out of a shift or rotate. -/
structure Shifted where
  value : Byte
  out : Bool
deriving DecidableEq, Repr

/-- ASL (R170): `c <- M[7]; r <- u8(M * 2)`. -/
def shiftLeft (m : Byte) : Shifted where
  value := BitVec.ofNat 8 (m.toNat * 2)
  out := m.getLsbD 7

/-- LSR (R171): `c <- M[0]; r <- M >> 1`. -/
def shiftRight (m : Byte) : Shifted where
  value := BitVec.ofNat 8 (m.toNat / 2)
  out := m.getLsbD 0

/-- ROL (R172): `c <- M[7]; r <- u8(M * 2) | P.C`. -/
def rotateLeft (m : Byte) (c : Bool) : Shifted where
  value := BitVec.ofNat 8 (m.toNat * 2) ||| BitVec.ofNat 8 c.toNat
  out := m.getLsbD 7

/-- ROR (R173): `c <- M[0]; r <- (P.C * 128) | (M >> 1)`. -/
def rotateRight (m : Byte) (c : Bool) : Shifted where
  value := BitVec.ofNat 8 (c.toNat * 128) ||| BitVec.ofNat 8 (m.toNat / 2)
  out := m.getLsbD 0

end Sys2Proof.Machine
end

