-- ==== Sys2Proof/Machine/Ops.lean ====
section
/-! DEFINITION. The shared operations: memory (20_memory.md), the stack engine, fatal errors and interrupt entry and return
(60_exceptions.md, 45_control.md R223), and the plain PC advance (40_execution.md R112). -/

namespace Sys2Proof.Machine

/-! ### Memory (20_memory.md R50 to R54) -/

/-- The byte a list of cells holds at a key; an unlisted key reads as `Config.unlistedByte`. -/
def readCell : List Host.Cell → Nat → Byte
  | [], _ => Config.unlistedByte
  | c :: m, k => if c.1 = k then c.2 else readCell m k

/-- The cells without a key. -/
def eraseCell : List Host.Cell → Nat → List Host.Cell
  | [], _ => []
  | c :: m, k => if c.1 = k then eraseCell m k else c :: eraseCell m k

/-- The cells with one more, before the first cell of a higher key. -/
def insertCell : List Host.Cell → Nat → Byte → List Host.Cell
  | [], k, v => [(k, v)]
  | c :: m, k, v => if k < c.1 then (k, v) :: c :: m else c :: insertCell m k v

/-- `read_u8(a)`: the byte most recently written at `a` (R51). -/
def Memory.read (m : Memory) (a : Word) : Byte := readCell m a.toNat

/-- `write_u8(a, v)`: changes only the byte at `a` (R51). Writing what an unlisted address reads as leaves it unlisted. -/
def Memory.write (m : Memory) (a : Word) (v : Byte) : Memory :=
  if v = Config.unlistedByte then eraseCell m a.toNat else insertCell (eraseCell m a.toNat) a.toNat v

/-- The canonical form: keys strictly rising and inside the address space, no cell equal to an unlisted one. -/
def Memory.wf : Memory → Bool
  | [] => true
  | c :: m =>
    decide (c.1 < Config.memorySize) && decide (c.2 ≠ Config.unlistedByte) && m.all (fun d => decide (c.1 < d.1))
      && Memory.wf m

/-- `read_u16(a)`: low byte at `a`, high byte at `u16(a + 1)` (R52). -/
def Memory.readWord (m : Memory) (a : Word) : Word := wordOf (m.read (a + 1#16)) (m.read a)

/-- `write_u16(a, v)`: low byte, then high byte at `u16(a + 1)` (R53). -/
def Memory.writeWord (m : Memory) (a : Word) (v : Word) : Memory := (m.write a (lo v)).write (a + 1#16) (hi v)

/-- `ZpRead16(z)`: the second byte is at `u8(z + 1)` (00_scope.md R14). -/
def Memory.readZeroPageWord (m : Memory) (z : Byte) : Word :=
  wordOf (m.read (zext16 (z + 1#8))) (m.read (zext16 z))

/-- `map(base, source)`: `write_u8` of each byte in order (R54). -/
def Memory.map (m : Memory) (base : Word) : List Byte → Memory
  | [] => m
  | v :: source => Memory.map (m.write base v) (base + 1#16) source

/-! ### Stack engine (20_memory.md R60 to R63) -/

/-- The stack byte an SP value designates (10_state.md R28). -/
def stackAddress (sp : Byte) : Word := Config.stackPage + zext16 sp

/-- `Push8(v)` (R60). -/
def State.push8 (s : State) (v : Byte) : State :=
  (s.setMem (s.mem.write (stackAddress s.sp) v)).setSp (s.sp - 1#8)

/-- The byte `Pop8()` returns (R61). -/
def State.top8 (s : State) : Byte := s.mem.read (stackAddress (s.sp + 1#8))

/-- The state `Pop8()` leaves (R61). -/
def State.drop8 (s : State) : State := s.setSp (s.sp + 1#8)

/-- `Push16(w)`: high byte first (R62). -/
def State.push16 (s : State) (w : Word) : State := (s.push8 (hi w)).push8 (lo w)

/-- The word `Pop16()` returns: low byte first (R63). -/
def State.top16 (s : State) : Word := wordOf s.drop8.top8 s.top8

/-- The state `Pop16()` leaves (R63). -/
def State.drop16 (s : State) : State := s.drop8.drop8

/-! ### The program counter -/

/-- `PC <- u16(pc0 + len)` (40_execution.md R112). -/
def State.advance (s : State) (len : Nat) : State := s.setPc (s.pc + BitVec.ofNat 16 len)

/-! ### Fatal errors (60_exceptions.md R240 to R244) -/

/-- The code of a fatal cause (R240). -/
def FatalCause.code : FatalCause → Nat
  | .unknownOpcode => 1
  | .unimplementedFeature => 2
  | .malformedRom => 3

/-- `raise Fatal(cause, (op, pc0))`: only Run is written, so PC stays pc0 (R241, R242, R244). -/
def State.raiseFatal (s : State) (cause : FatalCause) (op : Byte) : State :=
  s.setRun (.fatal { cause := cause, opcode := op, pc := s.pc })

/-! ### Interrupt entry and return -/

/-- `Enter(ret, b, vec)` (60_exceptions.md R245), shared by BRK, IRQ and NMI: push the return address, push P as stored, B and
I written, PC from the vector, which is read after the pushes. -/
def State.enter (s : State) (ret : Word) (b : Bool) (vec : Word) : State :=
  let pushed := (s.push16 ret).push8 s.p
  ((pushed.setFlag .b b).setFlag .i true).setPc (pushed.mem.readWord vec)

/-- The return of RTI (45_control.md R223): P, then PC, the reverse of the entry. -/
def State.leave (s : State) : State :=
  ((s.drop8.drop16).setP s.top8).setPc s.drop8.top16

end Sys2Proof.Machine
end

