-- ==== Sys2Proof/Machine/Operands.lean ====
section
/-! DEFINITION. The OperandResolver (40_execution.md R100 to R110): every mode's operand value `M` and write-back target `EA`,
computed from the instruction's own operand bytes, and `WriteBack`. -/

namespace Sys2Proof.Machine

/-- An operand: the addressing mode with the byte or word the instruction carries (30_encoding.md R81). -/
inductive Operand where
  | imp
  | acc
  | imm (n : Byte)
  | zp (n : Byte)
  | zpx (n : Byte)
  | zpy (n : Byte)
  | rel (n : Byte)
  | izx (n : Byte)
  | izy (n : Byte)
  | abs (w : Word)
  | abx (w : Word)
  | aby (w : Word)
  | ind (w : Word)
deriving DecidableEq, Repr

/-- The addressing mode of an operand. -/
def operandMode : Operand → AddrMode
  | .imp => .implied
  | .acc => .accumulator
  | .imm _ => .immediate
  | .zp _ => .zeroPage
  | .zpx _ => .zeroPageX
  | .zpy _ => .zeroPageY
  | .rel _ => .relative
  | .izx _ => .indirectX
  | .izy _ => .indirectY
  | .abs _ => .absolute
  | .abx _ => .absoluteX
  | .aby _ => .absoluteY
  | .ind _ => .indirect

/-- `len`: the length of an instruction with this operand (30_encoding.md R81). -/
def operandLength (o : Operand) : Nat := pcOffset (operandMode o)

/-- A write-back target: an address, the accumulator, or nothing (R100). -/
inductive Target where
  | nothing
  | accumulator
  | address (a : Word)
deriving DecidableEq, Repr

/-- `EA` (R101 to R109). -/
def target (o : Operand) (s : State) : Target :=
  match o with
  | .imp => .nothing
  | .acc => .accumulator
  | .imm _ => .nothing
  | .zp n => .address (zext16 n)
  | .zpx n => .address (zext16 (n + s.x))
  | .zpy n => .address (zext16 (n + s.y))
  | .rel _ => .nothing
  | .izx n => .address (s.mem.readZeroPageWord (n + s.x))
  | .izy n => .address (s.mem.readZeroPageWord n + zext16 s.y)
  | .abs w => .address w
  | .abx w => .address (w + zext16 s.x)
  | .aby w => .address (w + zext16 s.y)
  | .ind w => .address (s.mem.readWord w)

/-- `M` (R101 to R109): the data byte itself, the accumulator, the byte at EA, or 0. -/
def operandValue (o : Operand) (s : State) : Byte :=
  match o with
  | .imp => 0#8
  | .imm n => n
  | .rel n => n
  | o =>
    match target o s with
    | .nothing => 0#8
    | .accumulator => s.a
    | .address a => s.mem.read a

/-- `WriteBack(v)` (R110). -/
def State.writeBack (s : State) (t : Target) (v : Byte) : State :=
  match t with
  | .nothing => s
  | .accumulator => s.setA v
  | .address a => s.setMem (s.mem.write a v)

/-- The operand an instruction carries. -/
def instrOperand : Instr → Operand
  | .ldaImm n => .imm n
  | .ldaZp n => .zp n
  | .ldaZpx n => .zpx n
  | .ldaAbs w => .abs w
  | .ldaAbx w => .abx w
  | .ldaAby w => .aby w
  | .ldaIzx n => .izx n
  | .ldaIzy n => .izy n
  | .ldxImm n => .imm n
  | .ldxZp n => .zp n
  | .ldxZpy n => .zpy n
  | .ldxAbs w => .abs w
  | .ldxAby w => .aby w
  | .ldyImm n => .imm n
  | .ldyZp n => .zp n
  | .ldyZpx n => .zpx n
  | .ldyAbs w => .abs w
  | .ldyAbx w => .abx w
  | .staZp n => .zp n
  | .staZpx n => .zpx n
  | .staAbs w => .abs w
  | .staAbx w => .abx w
  | .staAby w => .aby w
  | .staIzx n => .izx n
  | .staIzy n => .izy n
  | .stxZp n => .zp n
  | .stxZpy n => .zpy n
  | .stxAbs w => .abs w
  | .styZp n => .zp n
  | .styZpx n => .zpx n
  | .styAbs w => .abs w
  | .tax => .imp
  | .tay => .imp
  | .txa => .imp
  | .tya => .imp
  | .tsx => .imp
  | .txs => .imp
  | .adcImm n => .imm n
  | .adcZp n => .zp n
  | .adcZpx n => .zpx n
  | .adcAbs w => .abs w
  | .adcAbx w => .abx w
  | .adcAby w => .aby w
  | .adcIzx n => .izx n
  | .adcIzy n => .izy n
  | .sbcImm n => .imm n
  | .sbcZp n => .zp n
  | .sbcZpx n => .zpx n
  | .sbcAbs w => .abs w
  | .sbcAbx w => .abx w
  | .sbcAby w => .aby w
  | .sbcIzx n => .izx n
  | .sbcIzy n => .izy n
  | .andImm n => .imm n
  | .andZp n => .zp n
  | .andZpx n => .zpx n
  | .andAbs w => .abs w
  | .andAbx w => .abx w
  | .andAby w => .aby w
  | .andIzx n => .izx n
  | .andIzy n => .izy n
  | .oraImm n => .imm n
  | .oraZp n => .zp n
  | .oraZpx n => .zpx n
  | .oraAbs w => .abs w
  | .oraAbx w => .abx w
  | .oraAby w => .aby w
  | .oraIzx n => .izx n
  | .oraIzy n => .izy n
  | .eorImm n => .imm n
  | .eorZp n => .zp n
  | .eorZpx n => .zpx n
  | .eorAbs w => .abs w
  | .eorAbx w => .abx w
  | .eorAby w => .aby w
  | .eorIzx n => .izx n
  | .eorIzy n => .izy n
  | .cmpImm n => .imm n
  | .cmpZp n => .zp n
  | .cmpZpx n => .zpx n
  | .cmpAbs w => .abs w
  | .cmpAbx w => .abx w
  | .cmpAby w => .aby w
  | .cmpIzx n => .izx n
  | .cmpIzy n => .izy n
  | .cpxImm n => .imm n
  | .cpxZp n => .zp n
  | .cpxAbs w => .abs w
  | .cpyImm n => .imm n
  | .cpyZp n => .zp n
  | .cpyAbs w => .abs w
  | .bitZp n => .zp n
  | .bitAbs w => .abs w
  | .incZp n => .zp n
  | .incZpx n => .zpx n
  | .incAbs w => .abs w
  | .incAbx w => .abx w
  | .decZp n => .zp n
  | .decZpx n => .zpx n
  | .decAbs w => .abs w
  | .decAbx w => .abx w
  | .inx => .imp
  | .iny => .imp
  | .dex => .imp
  | .dey => .imp
  | .aslAcc => .acc
  | .aslZp n => .zp n
  | .aslZpx n => .zpx n
  | .aslAbs w => .abs w
  | .aslAbx w => .abx w
  | .lsrAcc => .acc
  | .lsrZp n => .zp n
  | .lsrZpx n => .zpx n
  | .lsrAbs w => .abs w
  | .lsrAbx w => .abx w
  | .rolAcc => .acc
  | .rolZp n => .zp n
  | .rolZpx n => .zpx n
  | .rolAbs w => .abs w
  | .rolAbx w => .abx w
  | .rorAcc => .acc
  | .rorZp n => .zp n
  | .rorZpx n => .zpx n
  | .rorAbs w => .abs w
  | .rorAbx w => .abx w
  | .clc => .imp
  | .sec => .imp
  | .cli => .imp
  | .sei => .imp
  | .cld => .imp
  | .sed => .imp
  | .clv => .imp
  | .nop => .imp
  | .pha => .imp
  | .pla => .imp
  | .php => .imp
  | .plp => .imp
  | .jmpAbs w => .abs w
  | .jmpInd w => .ind w
  | .jsr w => .abs w
  | .rts => .imp
  | .bcc n => .rel n
  | .bcs n => .rel n
  | .beq n => .rel n
  | .bmi n => .rel n
  | .bne n => .rel n
  | .bpl n => .rel n
  | .bvc n => .rel n
  | .bvs n => .rel n
  | .brk => .imp
  | .rti => .imp

end Sys2Proof.Machine
end

