-- ==== Sys2Proof/Machine/Load.lean ====
section
/-! DEFINITION. Loads, stores and register transfers (41_load_store.md R130 to R141). -/

namespace Sys2Proof.Machine

/-- The 8-bit registers an instruction names. -/
inductive Reg where
  | a | x | y | sp
deriving DecidableEq, Repr

/-- A register's value. -/
def State.reg (s : State) : Reg → Byte
  | .a => s.a
  | .x => s.x
  | .y => s.y
  | .sp => s.sp

/-- `R <- v`. -/
def State.setReg (s : State) (r : Reg) (v : Byte) : State :=
  match r with
  | .a => s.setA v
  | .x => s.setX v
  | .y => s.setY v
  | .sp => s.setSp v

/-- `R <- M; SetNZ(R)` (R130 to R132). -/
def load (r : Reg) (o : Operand) (s : State) : Out :=
  .next (((s.setReg r (operandValue o s)).setNZ (operandValue o s)).advance (operandLength o))

/-- `WriteBack(R)` (R133 to R135). -/
def store (r : Reg) (o : Operand) (s : State) : Out :=
  .next ((s.writeBack (target o s) (s.reg r)).advance (operandLength o))

/-- `R' <- R; SetNZ(R')` (R136 to R140). -/
def transfer (src dst : Reg) (s : State) : Out :=
  .next (((s.setReg dst (s.reg src)).setNZ (s.reg src)).advance 1)

/-- `LDA #$nn` (R130, opcode 0xA9). -/
def execLdaImm (n : Byte) (s : State) : Out := load .a (.imm n) s

/-- `LDA $nn` (R130, opcode 0xA5). -/
def execLdaZp (n : Byte) (s : State) : Out := load .a (.zp n) s

/-- `LDA $nn,X` (R130, opcode 0xB5). -/
def execLdaZpx (n : Byte) (s : State) : Out := load .a (.zpx n) s

/-- `LDA $hhll` (R130, opcode 0xAD). -/
def execLdaAbs (w : Word) (s : State) : Out := load .a (.abs w) s

/-- `LDA $hhll,X` (R130, opcode 0xBD). -/
def execLdaAbx (w : Word) (s : State) : Out := load .a (.abx w) s

/-- `LDA $hhll,Y` (R130, opcode 0xB9). -/
def execLdaAby (w : Word) (s : State) : Out := load .a (.aby w) s

/-- `LDA ($nn,X)` (R130, opcode 0xA1). -/
def execLdaIzx (n : Byte) (s : State) : Out := load .a (.izx n) s

/-- `LDA ($nn),Y` (R130, opcode 0xB1). -/
def execLdaIzy (n : Byte) (s : State) : Out := load .a (.izy n) s

/-- `LDX #$nn` (R131, opcode 0xA2). -/
def execLdxImm (n : Byte) (s : State) : Out := load .x (.imm n) s

/-- `LDX $nn` (R131, opcode 0xA6). -/
def execLdxZp (n : Byte) (s : State) : Out := load .x (.zp n) s

/-- `LDX $nn,Y` (R131, opcode 0xB6). -/
def execLdxZpy (n : Byte) (s : State) : Out := load .x (.zpy n) s

/-- `LDX $hhll` (R131, opcode 0xAE). -/
def execLdxAbs (w : Word) (s : State) : Out := load .x (.abs w) s

/-- `LDX $hhll,Y` (R131, opcode 0xBE). -/
def execLdxAby (w : Word) (s : State) : Out := load .x (.aby w) s

/-- `LDY #$nn` (R132, opcode 0xA0). -/
def execLdyImm (n : Byte) (s : State) : Out := load .y (.imm n) s

/-- `LDY $nn` (R132, opcode 0xA4). -/
def execLdyZp (n : Byte) (s : State) : Out := load .y (.zp n) s

/-- `LDY $nn,X` (R132, opcode 0xB4). -/
def execLdyZpx (n : Byte) (s : State) : Out := load .y (.zpx n) s

/-- `LDY $hhll` (R132, opcode 0xAC). -/
def execLdyAbs (w : Word) (s : State) : Out := load .y (.abs w) s

/-- `LDY $hhll,X` (R132, opcode 0xBC). -/
def execLdyAbx (w : Word) (s : State) : Out := load .y (.abx w) s

/-- `STA $nn` (R133, opcode 0x85). -/
def execStaZp (n : Byte) (s : State) : Out := store .a (.zp n) s

/-- `STA $nn,X` (R133, opcode 0x95). -/
def execStaZpx (n : Byte) (s : State) : Out := store .a (.zpx n) s

/-- `STA $hhll` (R133, opcode 0x8D). -/
def execStaAbs (w : Word) (s : State) : Out := store .a (.abs w) s

/-- `STA $hhll,X` (R133, opcode 0x9D). -/
def execStaAbx (w : Word) (s : State) : Out := store .a (.abx w) s

/-- `STA $hhll,Y` (R133, opcode 0x99). -/
def execStaAby (w : Word) (s : State) : Out := store .a (.aby w) s

/-- `STA ($nn,X)` (R133, opcode 0x81). -/
def execStaIzx (n : Byte) (s : State) : Out := store .a (.izx n) s

/-- `STA ($nn),Y` (R133, opcode 0x91). -/
def execStaIzy (n : Byte) (s : State) : Out := store .a (.izy n) s

/-- `STX $nn` (R134, opcode 0x86). -/
def execStxZp (n : Byte) (s : State) : Out := store .x (.zp n) s

/-- `STX $nn,Y` (R134, opcode 0x96). -/
def execStxZpy (n : Byte) (s : State) : Out := store .x (.zpy n) s

/-- `STX $hhll` (R134, opcode 0x8E). -/
def execStxAbs (w : Word) (s : State) : Out := store .x (.abs w) s

/-- `STY $nn` (R135, opcode 0x84). -/
def execStyZp (n : Byte) (s : State) : Out := store .y (.zp n) s

/-- `STY $nn,X` (R135, opcode 0x94). -/
def execStyZpx (n : Byte) (s : State) : Out := store .y (.zpx n) s

/-- `STY $hhll` (R135, opcode 0x8C). -/
def execStyAbs (w : Word) (s : State) : Out := store .y (.abs w) s

/-- `TAX` (R136, opcode 0xAA). -/
def execTax (s : State) : Out := transfer .a .x s

/-- `TAY` (R137, opcode 0xA8). -/
def execTay (s : State) : Out := transfer .a .y s

/-- `TXA` (R138, opcode 0x8A). -/
def execTxa (s : State) : Out := transfer .x .a s

/-- `TYA` (R139, opcode 0x98). -/
def execTya (s : State) : Out := transfer .y .a s

/-- `TSX` (R140, opcode 0xBA). -/
def execTsx (s : State) : Out := transfer .sp .x s

/-- `TXS` (R141, opcode 0x9A). -/
def execTxs (s : State) : Out := .next ((s.setSp s.x).advance 1)

end Sys2Proof.Machine
end

