-- ==== Sys2Proof/Machine/Alu.lean ====
section
/-! DEFINITION. Arithmetic, logic, compare, increment and shift (42_alu.md R152, R155 to R173). -/

namespace Sys2Proof.Machine

/-- ADC and SBC (R155, R156) over the adder of the one or the other: fatal while D is 1, before any other write (R152). `op` is
the instruction's opcode byte, which Fatal records. -/
def addToA (f : Byte → Byte → Bool → AluSum) (op : Byte) (o : Operand) (s : State) : Out :=
  if s.flag .d then .next (s.raiseFatal .unimplementedFeature op)
  else
    let r := f s.a (operandValue o s) (s.flag .c)
    .next (((((s.setA r.value).setFlag .c r.carry).setFlag .v r.overflow).setNZ r.value).advance (operandLength o))

/-- `A <- A op M; SetNZ(A)` (R157 to R159). -/
def logic (f : Byte → Byte → Byte) (o : Operand) (s : State) : Out :=
  let r := f s.a (operandValue o s)
  .next (((s.setA r).setNZ r).advance (operandLength o))

/-- `Compare(R, M)` (R160 to R162). -/
def compareReg (r : Reg) (o : Operand) (s : State) : Out :=
  .next ((s.compare (s.reg r) (operandValue o s)).advance (operandLength o))

/-- BIT (R163): Z from `A & M`, V and N from M. -/
def bitTest (o : Operand) (s : State) : Out :=
  let m := operandValue o s
  .next ((((s.setFlag .z (s.a &&& m == 0#8)).setFlag .v (m.getLsbD 6)).setFlag .n (m.getLsbD 7)).advance (operandLength o))

/-- INC and DEC of memory (R164, R165): `WriteBack(r); SetNZ(r)`. -/
def stepByte (f : Byte → Byte) (o : Operand) (s : State) : Out :=
  let r := f (operandValue o s)
  .next (((s.writeBack (target o s) r).setNZ r).advance (operandLength o))

/-- INX, INY, DEX, DEY (R166 to R169). -/
def stepReg (r : Reg) (f : Byte → Byte) (s : State) : Out :=
  .next (((s.setReg r (f (s.reg r))).setNZ (f (s.reg r))).advance 1)

/-- ASL, LSR, ROL, ROR (R170 to R173): `WriteBack(r); P.C <- c; SetNZ(r)`. -/
def shift (f : Byte → Shifted) (o : Operand) (s : State) : Out :=
  let r := f (operandValue o s)
  .next ((((s.writeBack (target o s) r.value).setFlag .c r.out).setNZ r.value).advance (operandLength o))

/-- `ADC #$nn` (R155, opcode 0x69). -/
def execAdcImm (n : Byte) (s : State) : Out := addToA addWithCarry 0x69#8 (.imm n) s

/-- `ADC $nn` (R155, opcode 0x65). -/
def execAdcZp (n : Byte) (s : State) : Out := addToA addWithCarry 0x65#8 (.zp n) s

/-- `ADC $nn,X` (R155, opcode 0x75). -/
def execAdcZpx (n : Byte) (s : State) : Out := addToA addWithCarry 0x75#8 (.zpx n) s

/-- `ADC $hhll` (R155, opcode 0x6D). -/
def execAdcAbs (w : Word) (s : State) : Out := addToA addWithCarry 0x6D#8 (.abs w) s

/-- `ADC $hhll,X` (R155, opcode 0x7D). -/
def execAdcAbx (w : Word) (s : State) : Out := addToA addWithCarry 0x7D#8 (.abx w) s

/-- `ADC $hhll,Y` (R155, opcode 0x79). -/
def execAdcAby (w : Word) (s : State) : Out := addToA addWithCarry 0x79#8 (.aby w) s

/-- `ADC ($nn,X)` (R155, opcode 0x61). -/
def execAdcIzx (n : Byte) (s : State) : Out := addToA addWithCarry 0x61#8 (.izx n) s

/-- `ADC ($nn),Y` (R155, opcode 0x71). -/
def execAdcIzy (n : Byte) (s : State) : Out := addToA addWithCarry 0x71#8 (.izy n) s

/-- `SBC #$nn` (R156, opcode 0xE9). -/
def execSbcImm (n : Byte) (s : State) : Out := addToA subWithBorrow 0xE9#8 (.imm n) s

/-- `SBC $nn` (R156, opcode 0xE5). -/
def execSbcZp (n : Byte) (s : State) : Out := addToA subWithBorrow 0xE5#8 (.zp n) s

/-- `SBC $nn,X` (R156, opcode 0xF5). -/
def execSbcZpx (n : Byte) (s : State) : Out := addToA subWithBorrow 0xF5#8 (.zpx n) s

/-- `SBC $hhll` (R156, opcode 0xED). -/
def execSbcAbs (w : Word) (s : State) : Out := addToA subWithBorrow 0xED#8 (.abs w) s

/-- `SBC $hhll,X` (R156, opcode 0xFD). -/
def execSbcAbx (w : Word) (s : State) : Out := addToA subWithBorrow 0xFD#8 (.abx w) s

/-- `SBC $hhll,Y` (R156, opcode 0xF9). -/
def execSbcAby (w : Word) (s : State) : Out := addToA subWithBorrow 0xF9#8 (.aby w) s

/-- `SBC ($nn,X)` (R156, opcode 0xE1). -/
def execSbcIzx (n : Byte) (s : State) : Out := addToA subWithBorrow 0xE1#8 (.izx n) s

/-- `SBC ($nn),Y` (R156, opcode 0xF1). -/
def execSbcIzy (n : Byte) (s : State) : Out := addToA subWithBorrow 0xF1#8 (.izy n) s

/-- `AND #$nn` (R157, opcode 0x29). -/
def execAndImm (n : Byte) (s : State) : Out := logic (· &&& ·) (.imm n) s

/-- `AND $nn` (R157, opcode 0x25). -/
def execAndZp (n : Byte) (s : State) : Out := logic (· &&& ·) (.zp n) s

/-- `AND $nn,X` (R157, opcode 0x35). -/
def execAndZpx (n : Byte) (s : State) : Out := logic (· &&& ·) (.zpx n) s

/-- `AND $hhll` (R157, opcode 0x2D). -/
def execAndAbs (w : Word) (s : State) : Out := logic (· &&& ·) (.abs w) s

/-- `AND $hhll,X` (R157, opcode 0x3D). -/
def execAndAbx (w : Word) (s : State) : Out := logic (· &&& ·) (.abx w) s

/-- `AND $hhll,Y` (R157, opcode 0x39). -/
def execAndAby (w : Word) (s : State) : Out := logic (· &&& ·) (.aby w) s

/-- `AND ($nn,X)` (R157, opcode 0x21). -/
def execAndIzx (n : Byte) (s : State) : Out := logic (· &&& ·) (.izx n) s

/-- `AND ($nn),Y` (R157, opcode 0x31). -/
def execAndIzy (n : Byte) (s : State) : Out := logic (· &&& ·) (.izy n) s

/-- `ORA #$nn` (R158, opcode 0x09). -/
def execOraImm (n : Byte) (s : State) : Out := logic (· ||| ·) (.imm n) s

/-- `ORA $nn` (R158, opcode 0x05). -/
def execOraZp (n : Byte) (s : State) : Out := logic (· ||| ·) (.zp n) s

/-- `ORA $nn,X` (R158, opcode 0x15). -/
def execOraZpx (n : Byte) (s : State) : Out := logic (· ||| ·) (.zpx n) s

/-- `ORA $hhll` (R158, opcode 0x0D). -/
def execOraAbs (w : Word) (s : State) : Out := logic (· ||| ·) (.abs w) s

/-- `ORA $hhll,X` (R158, opcode 0x1D). -/
def execOraAbx (w : Word) (s : State) : Out := logic (· ||| ·) (.abx w) s

/-- `ORA $hhll,Y` (R158, opcode 0x19). -/
def execOraAby (w : Word) (s : State) : Out := logic (· ||| ·) (.aby w) s

/-- `ORA ($nn,X)` (R158, opcode 0x01). -/
def execOraIzx (n : Byte) (s : State) : Out := logic (· ||| ·) (.izx n) s

/-- `ORA ($nn),Y` (R158, opcode 0x11). -/
def execOraIzy (n : Byte) (s : State) : Out := logic (· ||| ·) (.izy n) s

/-- `EOR #$nn` (R159, opcode 0x49). -/
def execEorImm (n : Byte) (s : State) : Out := logic (· ^^^ ·) (.imm n) s

/-- `EOR $nn` (R159, opcode 0x45). -/
def execEorZp (n : Byte) (s : State) : Out := logic (· ^^^ ·) (.zp n) s

/-- `EOR $nn,X` (R159, opcode 0x55). -/
def execEorZpx (n : Byte) (s : State) : Out := logic (· ^^^ ·) (.zpx n) s

/-- `EOR $hhll` (R159, opcode 0x4D). -/
def execEorAbs (w : Word) (s : State) : Out := logic (· ^^^ ·) (.abs w) s

/-- `EOR $hhll,X` (R159, opcode 0x5D). -/
def execEorAbx (w : Word) (s : State) : Out := logic (· ^^^ ·) (.abx w) s

/-- `EOR $hhll,Y` (R159, opcode 0x59). -/
def execEorAby (w : Word) (s : State) : Out := logic (· ^^^ ·) (.aby w) s

/-- `EOR ($nn,X)` (R159, opcode 0x41). -/
def execEorIzx (n : Byte) (s : State) : Out := logic (· ^^^ ·) (.izx n) s

/-- `EOR ($nn),Y` (R159, opcode 0x51). -/
def execEorIzy (n : Byte) (s : State) : Out := logic (· ^^^ ·) (.izy n) s

/-- `CMP #$nn` (R160, opcode 0xC9). -/
def execCmpImm (n : Byte) (s : State) : Out := compareReg .a (.imm n) s

/-- `CMP $nn` (R160, opcode 0xC5). -/
def execCmpZp (n : Byte) (s : State) : Out := compareReg .a (.zp n) s

/-- `CMP $nn,X` (R160, opcode 0xD5). -/
def execCmpZpx (n : Byte) (s : State) : Out := compareReg .a (.zpx n) s

/-- `CMP $hhll` (R160, opcode 0xCD). -/
def execCmpAbs (w : Word) (s : State) : Out := compareReg .a (.abs w) s

/-- `CMP $hhll,X` (R160, opcode 0xDD). -/
def execCmpAbx (w : Word) (s : State) : Out := compareReg .a (.abx w) s

/-- `CMP $hhll,Y` (R160, opcode 0xD9). -/
def execCmpAby (w : Word) (s : State) : Out := compareReg .a (.aby w) s

/-- `CMP ($nn,X)` (R160, opcode 0xC1). -/
def execCmpIzx (n : Byte) (s : State) : Out := compareReg .a (.izx n) s

/-- `CMP ($nn),Y` (R160, opcode 0xD1). -/
def execCmpIzy (n : Byte) (s : State) : Out := compareReg .a (.izy n) s

/-- `CPX #$nn` (R161, opcode 0xE0). -/
def execCpxImm (n : Byte) (s : State) : Out := compareReg .x (.imm n) s

/-- `CPX $nn` (R161, opcode 0xE4). -/
def execCpxZp (n : Byte) (s : State) : Out := compareReg .x (.zp n) s

/-- `CPX $hhll` (R161, opcode 0xEC). -/
def execCpxAbs (w : Word) (s : State) : Out := compareReg .x (.abs w) s

/-- `CPY #$nn` (R162, opcode 0xC0). -/
def execCpyImm (n : Byte) (s : State) : Out := compareReg .y (.imm n) s

/-- `CPY $nn` (R162, opcode 0xC4). -/
def execCpyZp (n : Byte) (s : State) : Out := compareReg .y (.zp n) s

/-- `CPY $hhll` (R162, opcode 0xCC). -/
def execCpyAbs (w : Word) (s : State) : Out := compareReg .y (.abs w) s

/-- `BIT $nn` (R163, opcode 0x24). -/
def execBitZp (n : Byte) (s : State) : Out := bitTest (.zp n) s

/-- `BIT $hhll` (R163, opcode 0x2C). -/
def execBitAbs (w : Word) (s : State) : Out := bitTest (.abs w) s

/-- `INC $nn` (R164, opcode 0xE6). -/
def execIncZp (n : Byte) (s : State) : Out := stepByte (· + 1#8) (.zp n) s

/-- `INC $nn,X` (R164, opcode 0xF6). -/
def execIncZpx (n : Byte) (s : State) : Out := stepByte (· + 1#8) (.zpx n) s

/-- `INC $hhll` (R164, opcode 0xEE). -/
def execIncAbs (w : Word) (s : State) : Out := stepByte (· + 1#8) (.abs w) s

/-- `INC $hhll,X` (R164, opcode 0xFE). -/
def execIncAbx (w : Word) (s : State) : Out := stepByte (· + 1#8) (.abx w) s

/-- `DEC $nn` (R165, opcode 0xC6). -/
def execDecZp (n : Byte) (s : State) : Out := stepByte (· - 1#8) (.zp n) s

/-- `DEC $nn,X` (R165, opcode 0xD6). -/
def execDecZpx (n : Byte) (s : State) : Out := stepByte (· - 1#8) (.zpx n) s

/-- `DEC $hhll` (R165, opcode 0xCE). -/
def execDecAbs (w : Word) (s : State) : Out := stepByte (· - 1#8) (.abs w) s

/-- `DEC $hhll,X` (R165, opcode 0xDE). -/
def execDecAbx (w : Word) (s : State) : Out := stepByte (· - 1#8) (.abx w) s

/-- `INX` (R166, opcode 0xE8). -/
def execInx (s : State) : Out := stepReg .x (· + 1#8) s

/-- `INY` (R167, opcode 0xC8). -/
def execIny (s : State) : Out := stepReg .y (· + 1#8) s

/-- `DEX` (R168, opcode 0xCA). -/
def execDex (s : State) : Out := stepReg .x (· - 1#8) s

/-- `DEY` (R169, opcode 0x88). -/
def execDey (s : State) : Out := stepReg .y (· - 1#8) s

/-- `ASL A` (R170, opcode 0x0A). -/
def execAslAcc (s : State) : Out := shift shiftLeft .acc s

/-- `ASL $nn` (R170, opcode 0x06). -/
def execAslZp (n : Byte) (s : State) : Out := shift shiftLeft (.zp n) s

/-- `ASL $nn,X` (R170, opcode 0x16). -/
def execAslZpx (n : Byte) (s : State) : Out := shift shiftLeft (.zpx n) s

/-- `ASL $hhll` (R170, opcode 0x0E). -/
def execAslAbs (w : Word) (s : State) : Out := shift shiftLeft (.abs w) s

/-- `ASL $hhll,X` (R170, opcode 0x1E). -/
def execAslAbx (w : Word) (s : State) : Out := shift shiftLeft (.abx w) s

/-- `LSR A` (R171, opcode 0x4A). -/
def execLsrAcc (s : State) : Out := shift shiftRight .acc s

/-- `LSR $nn` (R171, opcode 0x46). -/
def execLsrZp (n : Byte) (s : State) : Out := shift shiftRight (.zp n) s

/-- `LSR $nn,X` (R171, opcode 0x56). -/
def execLsrZpx (n : Byte) (s : State) : Out := shift shiftRight (.zpx n) s

/-- `LSR $hhll` (R171, opcode 0x4E). -/
def execLsrAbs (w : Word) (s : State) : Out := shift shiftRight (.abs w) s

/-- `LSR $hhll,X` (R171, opcode 0x5E). -/
def execLsrAbx (w : Word) (s : State) : Out := shift shiftRight (.abx w) s

/-- `ROL A` (R172, opcode 0x2A). -/
def execRolAcc (s : State) : Out := shift (rotateLeft · (s.flag .c)) .acc s

/-- `ROL $nn` (R172, opcode 0x26). -/
def execRolZp (n : Byte) (s : State) : Out := shift (rotateLeft · (s.flag .c)) (.zp n) s

/-- `ROL $nn,X` (R172, opcode 0x36). -/
def execRolZpx (n : Byte) (s : State) : Out := shift (rotateLeft · (s.flag .c)) (.zpx n) s

/-- `ROL $hhll` (R172, opcode 0x2E). -/
def execRolAbs (w : Word) (s : State) : Out := shift (rotateLeft · (s.flag .c)) (.abs w) s

/-- `ROL $hhll,X` (R172, opcode 0x3E). -/
def execRolAbx (w : Word) (s : State) : Out := shift (rotateLeft · (s.flag .c)) (.abx w) s

/-- `ROR A` (R173, opcode 0x6A). -/
def execRorAcc (s : State) : Out := shift (rotateRight · (s.flag .c)) .acc s

/-- `ROR $nn` (R173, opcode 0x66). -/
def execRorZp (n : Byte) (s : State) : Out := shift (rotateRight · (s.flag .c)) (.zp n) s

/-- `ROR $nn,X` (R173, opcode 0x76). -/
def execRorZpx (n : Byte) (s : State) : Out := shift (rotateRight · (s.flag .c)) (.zpx n) s

/-- `ROR $hhll` (R173, opcode 0x6E). -/
def execRorAbs (w : Word) (s : State) : Out := shift (rotateRight · (s.flag .c)) (.abs w) s

/-- `ROR $hhll,X` (R173, opcode 0x7E). -/
def execRorAbx (w : Word) (s : State) : Out := shift (rotateRight · (s.flag .c)) (.abx w) s

end Sys2Proof.Machine
end

