-- ==== Sys2Proof/Machine/Control.lean ====
section
/-! DEFINITION. Control transfer (45_control.md R210 to R223). Each meaning sets the next PC itself (40_execution.md R113); `s.pc` is pc0. -/

namespace Sys2Proof.Machine

/-- `Branch(cond)` (R213): the offset is relative to the address after the branch. -/
def branch (cond : Bool) (n : Byte) (s : State) : Out :=
  if cond then .next (s.setPc (s.pc + 2#16 + sext16 n)) else .next (s.setPc (s.pc + 2#16))

/-- `JMP $hhll` (R210, opcode 0x4C). -/
def execJmpAbs (w : Word) (s : State) : Out := .next (s.setPc w)

/-- `JMP ($hhll)` (R210, opcode 0x6C). -/
def execJmpInd (w : Word) (s : State) : Out := .next (s.setPc (s.mem.readWord w))

/-- `JSR $hhll` (R211, opcode 0x20). -/
def execJsr (w : Word) (s : State) : Out := .next ((s.push16 (s.pc + 2#16)).setPc w)

/-- `RTS` (R212, opcode 0x60). -/
def execRts (s : State) : Out := .next (s.drop16.setPc (s.top16 + 1#16))

/-- `BCC $nn (offset)` (R214, opcode 0x90). -/
def execBcc (n : Byte) (s : State) : Out := branch (!s.flag .c) n s

/-- `BCS $nn (offset)` (R215, opcode 0xB0). -/
def execBcs (n : Byte) (s : State) : Out := branch (s.flag .c) n s

/-- `BEQ $nn (offset)` (R216, opcode 0xF0). -/
def execBeq (n : Byte) (s : State) : Out := branch (s.flag .z) n s

/-- `BMI $nn (offset)` (R217, opcode 0x30). -/
def execBmi (n : Byte) (s : State) : Out := branch (s.flag .n) n s

/-- `BNE $nn (offset)` (R218, opcode 0xD0). -/
def execBne (n : Byte) (s : State) : Out := branch (!s.flag .z) n s

/-- `BPL $nn (offset)` (R219, opcode 0x10). -/
def execBpl (n : Byte) (s : State) : Out := branch (!s.flag .n) n s

/-- `BVC $nn (offset)` (R220, opcode 0x50). -/
def execBvc (n : Byte) (s : State) : Out := branch (!s.flag .v) n s

/-- `BVS $nn (offset)` (R221, opcode 0x70). -/
def execBvs (n : Byte) (s : State) : Out := branch (s.flag .v) n s

/-- `BRK` (R222, opcode 0x00). -/
def execBrk (s : State) : Out := .next (s.enter (s.pc + 2#16) true Config.irqVector)

/-- `RTI` (R223, opcode 0x40). -/
def execRti (s : State) : Out := .next s.leave

end Sys2Proof.Machine
end

