-- ==== Sys2Proof/Machine/FlagInstr.lean ====
section
/-! DEFINITION. Flag instructions and NOP (43_flags_nop.md R190 to R197). -/

namespace Sys2Proof.Machine

/-- `P.f <- b` (R190 to R196). -/
def writeFlag (f : PFlag) (b : Bool) (s : State) : Out := .next ((s.setFlag f b).advance 1)

/-- `CLC` (R190, opcode 0x18). -/
def execClc (s : State) : Out := writeFlag .c false s

/-- `SEC` (R191, opcode 0x38). -/
def execSec (s : State) : Out := writeFlag .c true s

/-- `CLI` (R192, opcode 0x58). -/
def execCli (s : State) : Out := writeFlag .i false s

/-- `SEI` (R193, opcode 0x78). -/
def execSei (s : State) : Out := writeFlag .i true s

/-- `CLD` (R194, opcode 0xD8). -/
def execCld (s : State) : Out := writeFlag .d false s

/-- `SED` (R195, opcode 0xF8). -/
def execSed (s : State) : Out := writeFlag .d true s

/-- `CLV` (R196, opcode 0xB8). -/
def execClv (s : State) : Out := writeFlag .v false s

/-- `NOP` (R197, opcode 0xEA). -/
def execNop (s : State) : Out := .next (s.advance 1)

end Sys2Proof.Machine
end

