-- ==== Sys2Proof/Machine/Stack.lean ====
section
/-! DEFINITION. Stack instructions (44_stack.md R200 to R203). P is pushed and pulled as stored, all eight bits. -/

namespace Sys2Proof.Machine

/-- `PHA` (R200, opcode 0x48). -/
def execPha (s : State) : Out := .next ((s.push8 s.a).advance 1)

/-- `PLA` (R201, opcode 0x68). -/
def execPla (s : State) : Out := .next (((s.drop8.setA s.top8).setNZ s.top8).advance 1)

/-- `PHP` (R202, opcode 0x08). -/
def execPhp (s : State) : Out := .next ((s.push8 s.p).advance 1)

/-- `PLP` (R203, opcode 0x28). -/
def execPlp (s : State) : Out := .next ((s.drop8.setP s.top8).advance 1)

end Sys2Proof.Machine
end

