-- ==== Sys2Proof/Machine/Dispatch.lean ====
section
/-! DEFINITION. The dispatch (40_execution.md R111): one arm per instruction, each one call of its meaning. -/

namespace Sys2Proof.Machine

/-- Run the rule of an instruction (R111). Run is tested by `step`, before the fetch. -/
def exec (i : Instr) (s : State) : Host.Outcome State Fault Refusal :=
  match i with
  | .ldaImm n => Sys2Proof.Machine.execLdaImm n s
  | .ldaZp n => Sys2Proof.Machine.execLdaZp n s
  | .ldaZpx n => Sys2Proof.Machine.execLdaZpx n s
  | .ldaAbs w => Sys2Proof.Machine.execLdaAbs w s
  | .ldaAbx w => Sys2Proof.Machine.execLdaAbx w s
  | .ldaAby w => Sys2Proof.Machine.execLdaAby w s
  | .ldaIzx n => Sys2Proof.Machine.execLdaIzx n s
  | .ldaIzy n => Sys2Proof.Machine.execLdaIzy n s
  | .ldxImm n => Sys2Proof.Machine.execLdxImm n s
  | .ldxZp n => Sys2Proof.Machine.execLdxZp n s
  | .ldxZpy n => Sys2Proof.Machine.execLdxZpy n s
  | .ldxAbs w => Sys2Proof.Machine.execLdxAbs w s
  | .ldxAby w => Sys2Proof.Machine.execLdxAby w s
  | .ldyImm n => Sys2Proof.Machine.execLdyImm n s
  | .ldyZp n => Sys2Proof.Machine.execLdyZp n s
  | .ldyZpx n => Sys2Proof.Machine.execLdyZpx n s
  | .ldyAbs w => Sys2Proof.Machine.execLdyAbs w s
  | .ldyAbx w => Sys2Proof.Machine.execLdyAbx w s
  | .staZp n => Sys2Proof.Machine.execStaZp n s
  | .staZpx n => Sys2Proof.Machine.execStaZpx n s
  | .staAbs w => Sys2Proof.Machine.execStaAbs w s
  | .staAbx w => Sys2Proof.Machine.execStaAbx w s
  | .staAby w => Sys2Proof.Machine.execStaAby w s
  | .staIzx n => Sys2Proof.Machine.execStaIzx n s
  | .staIzy n => Sys2Proof.Machine.execStaIzy n s
  | .stxZp n => Sys2Proof.Machine.execStxZp n s
  | .stxZpy n => Sys2Proof.Machine.execStxZpy n s
  | .stxAbs w => Sys2Proof.Machine.execStxAbs w s
  | .styZp n => Sys2Proof.Machine.execStyZp n s
  | .styZpx n => Sys2Proof.Machine.execStyZpx n s
  | .styAbs w => Sys2Proof.Machine.execStyAbs w s
  | .tax => Sys2Proof.Machine.execTax s
  | .tay => Sys2Proof.Machine.execTay s
  | .txa => Sys2Proof.Machine.execTxa s
  | .tya => Sys2Proof.Machine.execTya s
  | .tsx => Sys2Proof.Machine.execTsx s
  | .txs => Sys2Proof.Machine.execTxs s
  | .adcImm n => Sys2Proof.Machine.execAdcImm n s
  | .adcZp n => Sys2Proof.Machine.execAdcZp n s
  | .adcZpx n => Sys2Proof.Machine.execAdcZpx n s
  | .adcAbs w => Sys2Proof.Machine.execAdcAbs w s
  | .adcAbx w => Sys2Proof.Machine.execAdcAbx w s
  | .adcAby w => Sys2Proof.Machine.execAdcAby w s
  | .adcIzx n => Sys2Proof.Machine.execAdcIzx n s
  | .adcIzy n => Sys2Proof.Machine.execAdcIzy n s
  | .sbcImm n => Sys2Proof.Machine.execSbcImm n s
  | .sbcZp n => Sys2Proof.Machine.execSbcZp n s
  | .sbcZpx n => Sys2Proof.Machine.execSbcZpx n s
  | .sbcAbs w => Sys2Proof.Machine.execSbcAbs w s
  | .sbcAbx w => Sys2Proof.Machine.execSbcAbx w s
  | .sbcAby w => Sys2Proof.Machine.execSbcAby w s
  | .sbcIzx n => Sys2Proof.Machine.execSbcIzx n s
  | .sbcIzy n => Sys2Proof.Machine.execSbcIzy n s
  | .andImm n => Sys2Proof.Machine.execAndImm n s
  | .andZp n => Sys2Proof.Machine.execAndZp n s
  | .andZpx n => Sys2Proof.Machine.execAndZpx n s
  | .andAbs w => Sys2Proof.Machine.execAndAbs w s
  | .andAbx w => Sys2Proof.Machine.execAndAbx w s
  | .andAby w => Sys2Proof.Machine.execAndAby w s
  | .andIzx n => Sys2Proof.Machine.execAndIzx n s
  | .andIzy n => Sys2Proof.Machine.execAndIzy n s
  | .oraImm n => Sys2Proof.Machine.execOraImm n s
  | .oraZp n => Sys2Proof.Machine.execOraZp n s
  | .oraZpx n => Sys2Proof.Machine.execOraZpx n s
  | .oraAbs w => Sys2Proof.Machine.execOraAbs w s
  | .oraAbx w => Sys2Proof.Machine.execOraAbx w s
  | .oraAby w => Sys2Proof.Machine.execOraAby w s
  | .oraIzx n => Sys2Proof.Machine.execOraIzx n s
  | .oraIzy n => Sys2Proof.Machine.execOraIzy n s
  | .eorImm n => Sys2Proof.Machine.execEorImm n s
  | .eorZp n => Sys2Proof.Machine.execEorZp n s
  | .eorZpx n => Sys2Proof.Machine.execEorZpx n s
  | .eorAbs w => Sys2Proof.Machine.execEorAbs w s
  | .eorAbx w => Sys2Proof.Machine.execEorAbx w s
  | .eorAby w => Sys2Proof.Machine.execEorAby w s
  | .eorIzx n => Sys2Proof.Machine.execEorIzx n s
  | .eorIzy n => Sys2Proof.Machine.execEorIzy n s
  | .cmpImm n => Sys2Proof.Machine.execCmpImm n s
  | .cmpZp n => Sys2Proof.Machine.execCmpZp n s
  | .cmpZpx n => Sys2Proof.Machine.execCmpZpx n s
  | .cmpAbs w => Sys2Proof.Machine.execCmpAbs w s
  | .cmpAbx w => Sys2Proof.Machine.execCmpAbx w s
  | .cmpAby w => Sys2Proof.Machine.execCmpAby w s
  | .cmpIzx n => Sys2Proof.Machine.execCmpIzx n s
  | .cmpIzy n => Sys2Proof.Machine.execCmpIzy n s
  | .cpxImm n => Sys2Proof.Machine.execCpxImm n s
  | .cpxZp n => Sys2Proof.Machine.execCpxZp n s
  | .cpxAbs w => Sys2Proof.Machine.execCpxAbs w s
  | .cpyImm n => Sys2Proof.Machine.execCpyImm n s
  | .cpyZp n => Sys2Proof.Machine.execCpyZp n s
  | .cpyAbs w => Sys2Proof.Machine.execCpyAbs w s
  | .bitZp n => Sys2Proof.Machine.execBitZp n s
  | .bitAbs w => Sys2Proof.Machine.execBitAbs w s
  | .incZp n => Sys2Proof.Machine.execIncZp n s
  | .incZpx n => Sys2Proof.Machine.execIncZpx n s
  | .incAbs w => Sys2Proof.Machine.execIncAbs w s
  | .incAbx w => Sys2Proof.Machine.execIncAbx w s
  | .decZp n => Sys2Proof.Machine.execDecZp n s
  | .decZpx n => Sys2Proof.Machine.execDecZpx n s
  | .decAbs w => Sys2Proof.Machine.execDecAbs w s
  | .decAbx w => Sys2Proof.Machine.execDecAbx w s
  | .inx => Sys2Proof.Machine.execInx s
  | .iny => Sys2Proof.Machine.execIny s
  | .dex => Sys2Proof.Machine.execDex s
  | .dey => Sys2Proof.Machine.execDey s
  | .aslAcc => Sys2Proof.Machine.execAslAcc s
  | .aslZp n => Sys2Proof.Machine.execAslZp n s
  | .aslZpx n => Sys2Proof.Machine.execAslZpx n s
  | .aslAbs w => Sys2Proof.Machine.execAslAbs w s
  | .aslAbx w => Sys2Proof.Machine.execAslAbx w s
  | .lsrAcc => Sys2Proof.Machine.execLsrAcc s
  | .lsrZp n => Sys2Proof.Machine.execLsrZp n s
  | .lsrZpx n => Sys2Proof.Machine.execLsrZpx n s
  | .lsrAbs w => Sys2Proof.Machine.execLsrAbs w s
  | .lsrAbx w => Sys2Proof.Machine.execLsrAbx w s
  | .rolAcc => Sys2Proof.Machine.execRolAcc s
  | .rolZp n => Sys2Proof.Machine.execRolZp n s
  | .rolZpx n => Sys2Proof.Machine.execRolZpx n s
  | .rolAbs w => Sys2Proof.Machine.execRolAbs w s
  | .rolAbx w => Sys2Proof.Machine.execRolAbx w s
  | .rorAcc => Sys2Proof.Machine.execRorAcc s
  | .rorZp n => Sys2Proof.Machine.execRorZp n s
  | .rorZpx n => Sys2Proof.Machine.execRorZpx n s
  | .rorAbs w => Sys2Proof.Machine.execRorAbs w s
  | .rorAbx w => Sys2Proof.Machine.execRorAbx w s
  | .clc => Sys2Proof.Machine.execClc s
  | .sec => Sys2Proof.Machine.execSec s
  | .cli => Sys2Proof.Machine.execCli s
  | .sei => Sys2Proof.Machine.execSei s
  | .cld => Sys2Proof.Machine.execCld s
  | .sed => Sys2Proof.Machine.execSed s
  | .clv => Sys2Proof.Machine.execClv s
  | .nop => Sys2Proof.Machine.execNop s
  | .pha => Sys2Proof.Machine.execPha s
  | .pla => Sys2Proof.Machine.execPla s
  | .php => Sys2Proof.Machine.execPhp s
  | .plp => Sys2Proof.Machine.execPlp s
  | .jmpAbs w => Sys2Proof.Machine.execJmpAbs w s
  | .jmpInd w => Sys2Proof.Machine.execJmpInd w s
  | .jsr w => Sys2Proof.Machine.execJsr w s
  | .rts => Sys2Proof.Machine.execRts s
  | .bcc n => Sys2Proof.Machine.execBcc n s
  | .bcs n => Sys2Proof.Machine.execBcs n s
  | .beq n => Sys2Proof.Machine.execBeq n s
  | .bmi n => Sys2Proof.Machine.execBmi n s
  | .bne n => Sys2Proof.Machine.execBne n s
  | .bpl n => Sys2Proof.Machine.execBpl n s
  | .bvc n => Sys2Proof.Machine.execBvc n s
  | .bvs n => Sys2Proof.Machine.execBvs n s
  | .brk => Sys2Proof.Machine.execBrk s
  | .rti => Sys2Proof.Machine.execRti s

end Sys2Proof.Machine
end

