-- ==== Sys2Proof/Machine/Fetch.lean ====
section
/-! DEFINITION. Fetch and decode (40_execution.md R111): the bytes at PC, the instruction they hold, and what a step does when
they hold none or the core is not Steady. -/

namespace Sys2Proof.Machine

/-- The opcode byte and the two bytes after it, at addresses modulo 65536 (R100, R111). A shorter instruction leaves the last
ones unused; reads have no effect (20_memory.md R51). -/
def fetchBytes (s : State) : List Byte := [s.mem.read s.pc, s.mem.read (s.pc + 1#16), s.mem.read (s.pc + 2#16)]

/-- The instruction at PC, or the decoder's rejection. -/
def fetchInstr (s : State) : Decoded := decode (fetchBytes s)

/-- The step on an undefined opcode byte (60_exceptions.md R241): the core enters Fatal, nothing else is written. Three bytes
are never too short, so the byte at PC is the reason. -/
def rejectStep (s : State) : Out := .next (s.raiseFatal .unknownOpcode (s.mem.read s.pc))

/-- The step of a Fatal core returns the recorded error (60_exceptions.md R243). -/
def fatalStep (r : FatalRecord) : Out := .fault (.fatal r)

/-- The step of an Unbooted core is refused (10_state.md R34). -/
def unbootedStep : Out := .refused .unbooted

/-- The bytes of a table word written at PC, and the core Steady. -/
def placeWord (s : State) (bytes : List Byte) : State := (s.setMem (s.mem.map s.pc bytes)).setRun .steady

/-- The addressing mode the diagnostic dump shows (R116). -/
def currentMode (s : State) : AddrMode := addrMode (s.mem.read s.pc)

end Sys2Proof.Machine
end

