-- ==== Sys2Proof/Machine/Step.lean ====
section
/-! DEFINITION. One `execute()` call (40_execution.md R111), and a state whose next step runs a given instruction. -/

namespace Sys2Proof.Machine

/-- `execute()` (R111). A step that raises a fatal error answers the state it leaves, whose Run is Fatal (60_exceptions.md R241,
R242); a step on a core already Fatal returns the recorded error (R243). -/
def step (s : State) : Host.Outcome State Fault Refusal :=
  match s.run with
  | .unbooted => unbootedStep
  | .fatal r => fatalStep r
  | .steady =>
    match fetchInstr s with
    | .instr i _ => exec i s
    | .reject _ => rejectStep s

/-- `s` with the instruction of a table word at PC and the core Steady, so that the next step runs it. -/
def State.withFetchWord (s : State) (nbits w : Nat) : State := placeWord s (tableBytes nbits w)

end Sys2Proof.Machine
end

