-- ==== Sys2Proof/Machine/HostCalls.lean ====
section
/-! DEFINITION. The host's calls on the core (00_scope.md R9): boot, execute, run, the two interrupts and the diagnostic dump,
each completed before the next begins. -/

namespace Sys2Proof.Machine

/-- `boot(rom)` (70_reset_and_hazards.md R270 to R273), SP_INIT being an argument and INIT_MEM the unbooted core's memory. -/
def boot (spInit : Byte) (rom : List Byte) (s : State) : Out :=
  match s.run with
  | .steady => .refused .bootTwice
  | .fatal _ => .refused .bootTwice
  | .unbooted =>
    if Config.memorySize < rom.length then .fault .malformedRom
    else
      let loaded := (((((s.setMem (s.mem.map Config.programBase rom)).setP 0x04#8).setA 0x00#8).setX 0x00#8).setY 0x00#8).setSp spInit
      .next ((loaded.setPc (loaded.mem.readWord Config.resetVector)).setRun .steady)

/-- The `execute()` calls of `run(n)` on a Steady core, up to and including the first that returns a fatal error
(40_execution.md R114). -/
def runSteady : Nat → State → Out
  | 0, s => .next s
  | k + 1, s =>
    match step s with
    | .next t =>
      match t.run with
      | .fatal _ => .next t
      | _ => runSteady k t
    | .fault r => .fault r
    | .refused r => .refused r

/-- `run(n)` (40_execution.md R114): on a Fatal core it returns the recorded error without executing (60_exceptions.md R243), on
an Unbooted one it is refused (10_state.md R34). -/
def run (n : Nat) (s : State) : Out :=
  match s.run with
  | .unbooted => unbootedStep
  | .fatal r => fatalStep r
  | .steady => runSteady n s

/-- `interrupt()`, IRQ (60_exceptions.md R246): discarded while I is 1, no effect in Fatal. -/
def interrupt (s : State) : Out :=
  match s.run with
  | .unbooted => unbootedStep
  | .fatal _ => .next s
  | .steady => if s.flag .i then .next s else .next (s.enter s.pc false Config.irqVector)

/-- `non_maskable_interrupt()`, NMI (60_exceptions.md R247): never masked, no effect in Fatal. -/
def nonMaskableInterrupt (s : State) : Out :=
  match s.run with
  | .unbooted => unbootedStep
  | .fatal _ => .next s
  | .steady => .next (s.enter s.pc false Config.nmiVector)

/-- What a call returns to the host, read from the state it leaves (00_scope.md R8): success, or the fatal error recorded. -/
def fatalError (s : State) : Option FatalRecord :=
  match s.run with
  | .fatal r => some r
  | _ => none

/-- The diagnostic dump (00_scope.md R9, 60_exceptions.md R258). Its text is free; these are its values. -/
structure Dump where
  pc : Word
  sp : Byte
  a : Byte
  x : Byte
  y : Byte
  p : Byte
  mode : AddrMode
  stack : List Byte
deriving DecidableEq, Repr

/-- The stack page from the byte a pop would read, going up and wrapping. DESIGN CHOICE (log entry 9): the spec says "stack
contents top-to-bottom" and no more. -/
def stackListing (s : State) : List Byte :=
  (List.range 256).map (fun k => s.mem.read (stackAddress (s.sp + 1#8 + BitVec.ofNat 8 k)))

/-- The dump of a state; it writes nothing. -/
def dump (s : State) : Dump where
  pc := s.pc
  sp := s.sp
  a := s.a
  x := s.x
  y := s.y
  p := s.p
  mode := currentMode s
  stack := stackListing s

/-- The calls the host may make (00_scope.md R9). -/
inductive HostCall where
  | boot (rom : List Byte)
  | execute
  | run (n : Nat)
  | interrupt
  | nonMaskableInterrupt
  | dump
deriving DecidableEq, Repr

/-- The effect of a host call on the core. -/
def hostCall (spInit : Byte) (call : HostCall) (s : State) : Out :=
  match call with
  | .boot rom => boot spInit rom s
  | .execute => step s
  | .run n => run n s
  | .interrupt => interrupt s
  | .nonMaskableInterrupt => nonMaskableInterrupt s
  | .dump => .next s

end Sys2Proof.Machine
end

