-- ==== Sys2Proof/Safety.lean ====
section
/-! DEFINITION. The terms the statements use: what an instruction leaves unchanged (its frame), what the spec says each
instruction may read and write, the undefined opcode bytes, and the invariant of the core. -/

namespace Sys2Proof.Machine

/-! ### Frames -/

/-- The pieces of the register file, flags one by one (10_state.md R20, R24). PC and memory are treated apart. -/
inductive Piece where
  | a | x | y | sp
  | flag (f : PFlag)
  | bit5
deriving DecidableEq, Repr

/-- From `s` to `t` only the pieces in `may` and the bytes at the addresses in `stored` may differ; PC may change; Run may
not. -/
structure Frame (may : List Piece) (stored : List Word) (s t : State) : Prop where
  a : Piece.a ∉ may → t.a = s.a
  x : Piece.x ∉ may → t.x = s.x
  y : Piece.y ∉ may → t.y = s.y
  sp : Piece.sp ∉ may → t.sp = s.sp
  flags : ∀ f, Piece.flag f ∉ may → t.flag f = s.flag f
  bit5 : Piece.bit5 ∉ may → t.bit5 = s.bit5
  run : t.run = s.run
  mem : ∀ b, b ∉ stored → t.mem.read b = s.mem.read b

/-- All eight bits of P. -/
def allOfP : List Piece :=
  [.flag .c, .flag .z, .flag .i, .flag .d, .flag .b, .flag .v, .flag .n, .bit5]

/-- Z and N are those of a result byte (42_alu.md R150). -/
def NZ (v : Byte) (t : State) : Prop := t.flag .z = decide (v = 0#8) ∧ t.flag .n = v.getLsbD 7

/-- The next state's PC is that of the plain advance over an operand of this mode (40_execution.md R112). -/
def Advances (o : Operand) (s t : State) : Prop := t.pc = s.pc + BitVec.ofNat 16 (operandLength o)

/-- A row of R84 with its operand bytes filled in: opcode byte, instruction, operand. -/
structure Row where
  opcode : Byte
  instr : Instr
  operand : Operand

/-- The row's instruction is encoded with the row's opcode byte, and on `s` it answers a next state that has `post`. -/
def Row.Does (r : Row) (s : State) (post : State → Prop) : Prop :=
  (encode r.instr).head? = some r.opcode ∧ ∃ t, exec r.instr s = .next t ∧ post t

/-- The two memory bytes as a number, `hi * 256 + lo` (00_scope.md R11). -/
def twoBytes (m : Memory) (high low : Word) : Nat := (m.read high).toNat * 256 + (m.read low).toNat

/-- The addresses a write-back target stores to (40_execution.md R110). -/
def targetAddresses : Target → List Word
  | .address a => [a]
  | _ => []

/-- The accumulator, if a write-back target is it. -/
def targetPieces : Target → List Piece
  | .accumulator => [.a]
  | _ => []

/-- `v` stands at a write-back target: in the accumulator or in the byte at the address (40_execution.md R110). -/
def HeldAt (g : Target) (v : Byte) (t : State) : Prop :=
  match g with
  | .accumulator => t.a = v
  | .address a => t.mem.read a = v
  | .nothing => True

/-! ### What an instruction may read and write -/

/-- The writers of each flag (10_state.md R25). -/
def flagWriters : PFlag → List Mnemonic
  | .c => [.adc, .sbc, .asl, .lsr, .rol, .ror, .cmp, .cpx, .cpy, .clc, .sec, .plp, .rti]
  | .z => [.lda, .ldx, .ldy, .tax, .tay, .txa, .tya, .tsx, .pla, .and, .ora, .eor, .adc, .sbc, .asl, .lsr, .rol, .ror, .inc, .dec,
      .inx, .iny, .dex, .dey, .cmp, .cpx, .cpy, .bit, .plp, .rti]
  | .i => [.sei, .cli, .plp, .rti, .brk]
  | .d => [.sed, .cld, .plp, .rti]
  | .b => [.brk, .plp, .rti]
  | .v => [.adc, .sbc, .bit, .clv, .plp, .rti]
  | .n => [.lda, .ldx, .ldy, .tax, .tay, .txa, .tya, .tsx, .pla, .and, .ora, .eor, .adc, .sbc, .asl, .lsr, .rol, .ror, .inc, .dec,
      .inx, .iny, .dex, .dey, .cmp, .cpx, .cpy, .bit, .plp, .rti]

/-- The readers of each flag (10_state.md R25), with PHP and BRK, which push all of P. -/
def flagReaders : PFlag → List Mnemonic
  | .c => [.adc, .sbc, .rol, .ror, .bcc, .bcs, .php, .brk]
  | .z => [.beq, .bne, .php, .brk]
  | .i => [.php, .brk]
  | .d => [.adc, .sbc, .php, .brk]
  | .b => [.php, .brk]
  | .v => [.bvc, .bvs, .php, .brk]
  | .n => [.bmi, .bpl, .php, .brk]

/-- The instructions that write the byte at EA (40_execution.md R110, R115). -/
def writesTarget (m : Mnemonic) : Bool :=
  [Mnemonic.sta, .stx, .sty, .asl, .lsr, .rol, .ror, .inc, .dec].contains m

/-- The addresses an instruction may write (40_execution.md R115): EA, or the stack bytes it pushes. -/
def writeSet (i : Instr) (s : State) : List Word :=
  match i.mnemonic with
  | .pha | .php => [stackAddress s.sp]
  | .jsr => [stackAddress s.sp, stackAddress (s.sp - 1#8)]
  | .brk => [stackAddress s.sp, stackAddress (s.sp - 1#8), stackAddress (s.sp - 2#8)]
  | m => if writesTarget m then targetAddresses (target (instrOperand i) s) else []

/-- The pointer bytes of a mode (40_execution.md R106 to R108). -/
def pointerAddresses (o : Operand) (s : State) : List Word :=
  match o with
  | .izx n => [zext16 (n + s.x), zext16 (n + s.x + 1#8)]
  | .izy n => [zext16 n, zext16 (n + 1#8)]
  | .ind w => [w, w + 1#16]
  | _ => []

/-- The addresses an instruction may read beside its own bytes (40_execution.md R115): the pointer bytes of its mode, EA, the
stack bytes it pops, the vector of BRK. EA counts for stores, JMP and JSR too, as R115 says, though they do not use its byte. -/
def readSet (i : Instr) (s : State) : List Word :=
  match i.mnemonic with
  | .pla | .plp => [stackAddress (s.sp + 1#8)]
  | .rts => [stackAddress (s.sp + 1#8), stackAddress (s.sp + 2#8)]
  | .rti => [stackAddress (s.sp + 1#8), stackAddress (s.sp + 2#8), stackAddress (s.sp + 3#8)]
  | .brk => [Config.irqVector, Config.irqVector + 1#16]
  | _ => pointerAddresses (instrOperand i) s ++ targetAddresses (target (instrOperand i) s)

/-- The instructions that set PC themselves (40_execution.md R112). -/
def controlTransfer (m : Mnemonic) : Bool :=
  [Mnemonic.jmp, .jsr, .rts, .rti, .brk, .bcc, .bcs, .beq, .bmi, .bne, .bpl, .bvc, .bvs].contains m

/-! ### Undefined bytes and the invariant -/

/-- The 105 undefined opcode bytes (30_encoding.md R85). -/
def undefinedOpcodes : List Nat :=
  [0x02, 0x03, 0x04, 0x07, 0x0B, 0x0C, 0x0F, 0x12, 0x13, 0x14, 0x17, 0x1A, 0x1B, 0x1C, 0x1F, 0x22, 0x23, 0x27, 0x2B, 0x2F, 0x32,
    0x33, 0x34, 0x37, 0x3A, 0x3B, 0x3C, 0x3F, 0x42, 0x43, 0x44, 0x47, 0x4B, 0x4F, 0x52]
  ++ [0x53, 0x54, 0x57, 0x5A, 0x5B, 0x5C, 0x5F, 0x62, 0x63, 0x64, 0x67, 0x6B, 0x6F, 0x72, 0x73, 0x74, 0x77, 0x7A, 0x7B, 0x7C,
    0x7F, 0x80, 0x82, 0x83, 0x87, 0x89, 0x8B, 0x8F, 0x92, 0x93, 0x97, 0x9B, 0x9C, 0x9E, 0x9F]
  ++ [0xA3, 0xA7, 0xAB, 0xAF, 0xB2, 0xB3, 0xB7, 0xBB, 0xBF, 0xC2, 0xC3, 0xC7, 0xCB, 0xCF, 0xD2, 0xD3, 0xD4, 0xD7, 0xDA, 0xDB,
    0xDC, 0xDF, 0xE2, 0xE3, 0xE7, 0xEB, 0xEF, 0xF2, 0xF3, 0xF4, 0xF7, 0xFA, 0xFB, 0xFC, 0xFF]

/-- The opcode bytes of ADC and SBC (42_alu.md R155, R156). -/
def addSubOpcodes : List Byte :=
  [0x69#8, 0x65#8, 0x75#8, 0x6D#8, 0x7D#8, 0x79#8, 0x61#8, 0x71#8, 0xE9#8, 0xE5#8, 0xF5#8, 0xED#8, 0xFD#8, 0xF9#8, 0xE1#8, 0xF1#8]

/-- The record of a Fatal core is sound (60_exceptions.md R241, R242, R244): PC still is the faulting instruction's address, the
byte there is the one recorded, and the cause is one a step can raise on it. -/
def RecordSound (s : State) (r : FatalRecord) : Prop :=
  r.pc = s.pc ∧ r.opcode = s.mem.read s.pc ∧
    ((r.cause = .unknownOpcode ∧ r.opcode.toNat ∈ undefinedOpcodes) ∨
      (r.cause = .unimplementedFeature ∧ r.opcode ∈ addSubOpcodes ∧ s.flag .d = true))

/-- The invariant of the core: memory is canonical, and a Fatal core's record is sound. -/
def CoreInv (s : State) : Prop := s.mem.wf = true ∧ ∀ r, s.run = .fatal r → RecordSound s r

end Sys2Proof.Machine
end

