-- ==== Sys2Proof/Certificates/Slice0/Obligations.lean ====
section
/-! DEFINITION. The statements for the provers, from the numbered rules of spec/. A `Row` names an opcode byte, its instruction
and its operand; `Row.Does` says that the instruction answers a next state with what follows. -/

open Sys2Proof Sys2Proof.Machine

/-- The decoder reads an instruction from a byte sequence exactly when the sequence begins with that instruction's encoding, for every
instruction, operand and rest (30_encoding.md R82, R84, R86). -/
def Obligations.DecodeExactlyEncode : Prop :=
  ∀ (bytes rest : List Byte) (i : Instr), decode bytes = .instr i rest ↔ bytes = encode i ++ rest

/-- A few instructions, one or more per family, written out bit by bit from R82 and R84. -/
def Obligations.EncodedWordsDecode : Prop :=
  decode [0b10101001#8, 0b01000010#8] = .instr (.ldaImm 0x42#8) [] ∧
  decode [0b10011101#8, 0b00000000#8, 0b00000010#8] = .instr (.staAbx 0x0200#16) [] ∧
  decode [0b10111010#8] = .instr .tsx [] ∧
  decode [0b01100101#8, 0b00010000#8] = .instr (.adcZp 0x10#8) [] ∧
  decode [0b11010001#8, 0b00100000#8] = .instr (.cmpIzy 0x20#8) [] ∧
  decode [0b01101010#8] = .instr .rorAcc [] ∧
  decode [0b11111000#8] = .instr .sed [] ∧
  decode [0b00101000#8] = .instr .plp [] ∧
  decode [0b01101100#8, 0b11111111#8, 0b00010010#8] = .instr (.jmpInd 0x12FF#16) [] ∧
  decode [0b11010000#8, 0b00001010#8] = .instr (.bne 0x0A#8) [] ∧
  decode [0b00000000#8] = .instr .brk []

/-- 30_encoding.md R85 and R80: on exactly the 105 listed bytes the decoder answers "undefined opcode" and the mode is None. -/
def Obligations.UndefinedBytesAreRejected : Prop :=
  undefinedOpcodes.length = 105 ∧
  ∀ (op : Byte) (rest : List Byte),
    (decode (op :: rest) = .reject (.undefinedOpcode op) ↔ op.toNat ∈ undefinedOpcodes) ∧
    (addrMode op = .none ↔ op.toNat ∈ undefinedOpcodes) ∧
    (opcodeForm op = none ↔ op.toNat ∈ undefinedOpcodes)

/-- 30_encoding.md R84: the defined (mnemonic, mode) pairs are exactly those an opcode byte selects, each selected by exactly one byte. -/
def Obligations.FormsHaveOneOpcode : Prop :=
  (∀ f : Form, f.wf = true ↔ ∃ op, opcodeForm op = some f) ∧
  ∀ (op op' : Byte) (f : Form), opcodeForm op = some f → opcodeForm op' = some f → op = op'

/-- 40_execution.md R104: the effective address and the operand value of the zero-page modes; the indexed sum wraps modulo 256. -/
def Obligations.ZeroPageOperands : Prop :=
  ∀ (s : State) (n : Byte),
    (∃ a, target (.zp n) s = .address a ∧ a.toNat = n.toNat ∧ operandValue (.zp n) s = s.mem.read a) ∧
    (∃ a, target (.zpx n) s = .address a ∧ a.toNat = (n.toNat + s.x.toNat) % 256 ∧
      operandValue (.zpx n) s = s.mem.read a) ∧
    (∃ a, target (.zpy n) s = .address a ∧ a.toNat = (n.toNat + s.y.toNat) % 256 ∧
      operandValue (.zpy n) s = s.mem.read a)

/-- 40_execution.md R105: the absolute modes; the indexed sum wraps modulo 65536. -/
def Obligations.AbsoluteOperands : Prop :=
  ∀ (s : State) (w : Word),
    (∃ a, target (.abs w) s = .address a ∧ a.toNat = w.toNat ∧ operandValue (.abs w) s = s.mem.read a) ∧
    (∃ a, target (.abx w) s = .address a ∧ a.toNat = (w.toNat + s.x.toNat) % 65536 ∧
      operandValue (.abx w) s = s.mem.read a) ∧
    (∃ a, target (.aby w) s = .address a ∧ a.toNat = (w.toNat + s.y.toNat) % 65536 ∧
      operandValue (.aby w) s = s.mem.read a)

/-- 40_execution.md R106 to R108: the pointer of Indirect carries over 16 bits, those of IndirectX and IndirectY stay in page zero. -/
def Obligations.PointerOperands : Prop :=
  ∀ (s : State) (n : Byte) (w : Word),
    (∃ a, target (.ind w) s = .address a ∧
      a.toNat = twoBytes s.mem (BitVec.ofNat 16 ((w.toNat + 1) % 65536)) w ∧ operandValue (.ind w) s = s.mem.read a) ∧
    (∃ a, target (.izx n) s = .address a ∧
      a.toNat = twoBytes s.mem (BitVec.ofNat 16 ((n.toNat + s.x.toNat + 1) % 256))
        (BitVec.ofNat 16 ((n.toNat + s.x.toNat) % 256)) ∧
      operandValue (.izx n) s = s.mem.read a) ∧
    (∃ a, target (.izy n) s = .address a ∧
      a.toNat = (twoBytes s.mem (BitVec.ofNat 16 ((n.toNat + 1) % 256)) (BitVec.ofNat 16 n.toNat) + s.y.toNat) % 65536 ∧
      operandValue (.izy n) s = s.mem.read a)

/-- 40_execution.md R101 to R103, R109, R110: the modes without an address, and write-back. -/
def Obligations.ImpliedImmediateAccumulatorOperands : Prop :=
  ∀ (s : State) (n v : Byte) (b : Word),
    (operandValue .imp s = 0#8 ∧ target .imp s = .nothing) ∧
    (operandValue (.imm n) s = n ∧ target (.imm n) s = .nothing) ∧
    (operandValue (.rel n) s = n ∧ target (.rel n) s = .nothing) ∧
    (operandValue .acc s = s.a ∧ target .acc s = .accumulator) ∧
    s.writeBack .nothing v = s ∧
    (s.writeBack .accumulator v = { s with a := v }) ∧
    (s.writeBack (.address b) v).mem.read b = v ∧
    Frame [] [b] s (s.writeBack (.address b) v) ∧ (s.writeBack (.address b) v).pc = s.pc

/-- 20_memory.md R52, R53: byte order and wrap of the word accessors, and the round trip for every address, 0xFFFF too. -/
def Obligations.WordAccessesAreLittleEndian : Prop :=
  ∀ (m : Memory) (a v : Word),
    (m.readWord a).toNat = twoBytes m (BitVec.ofNat 16 ((a.toNat + 1) % 65536)) a ∧
    ((m.writeWord a v).read a).toNat = v.toNat % 256 ∧
    ((m.writeWord a v).read (a + 1#16)).toNat = v.toNat / 256 ∧
    (∀ b, b ≠ a → b ≠ a + 1#16 → (m.writeWord a v).read b = m.read b) ∧
    (m.writeWord a v).readWord a = v

/-- 20_memory.md R60 to R65: where pushes and pops go, that they wrap, and that they are inverse for every SP. -/
def Obligations.StackRoundTrips : Prop :=
  ∀ (s : State) (v : Byte) (w : Word),
    (s.push8 v).mem.read (stackAddress s.sp) = v ∧ (s.push8 v).sp.toNat = (s.sp.toNat + 255) % 256 ∧
    s.top8 = s.mem.read (stackAddress (s.sp + 1#8)) ∧ s.drop8.sp.toNat = (s.sp.toNat + 1) % 256 ∧
    (s.push8 v).top8 = v ∧ (s.push8 v).drop8.sp = s.sp ∧
    (s.push16 w).mem.read (stackAddress s.sp) = hi w ∧ (s.push16 w).mem.read (stackAddress (s.sp - 1#8)) = lo w ∧
    (s.push16 w).top16 = w ∧ (s.push16 w).drop16.sp = s.sp ∧
    (stackAddress s.sp).toNat = 0x0100 + s.sp.toNat

/-- 20_memory.md R54: map copies the whole source and touches no other byte. -/
def Obligations.MapCopiesTheSource : Prop :=
  ∀ (m : Memory) (base : Word) (source : List Byte), base.toNat + source.length ≤ 65536 →
    ∀ b : Word, (m.map base source).read b =
      if base.toNat ≤ b.toNat ∧ b.toNat < base.toNat + source.length then source.getD (b.toNat - base.toNat) 0#8
      else m.read b

/-- Two canonical memories that read alike are the same data: the canonical form of the memory (log entry 10) loses nothing. -/
def Obligations.CanonicalMemoriesAreEqual : Prop :=
  ∀ m m' : Memory, m.wf = true → m'.wf = true → (∀ b, m.read b = m'.read b) → m = m'

/-- 40_execution.md R111: on a Steady core, when the bytes at PC (addresses modulo 65536) are the encoding of a well-formed
instruction, the step is exec of it on that very state; the step adds nothing around exec. -/
def Obligations.StepRunsTheEncodedInstruction : Prop :=
  ∀ (s : State) (i : Instr), i.wf = true → s.run = .steady →
    (∀ k, k < (encode i).length → s.mem.read (s.pc + BitVec.ofNat 16 k) = (encode i).getD k 0#8) → step s = exec i s

/-- 60_exceptions.md R241, R85: an undefined byte at PC makes the step enter Fatal with (1, op, pc0) and write nothing else. -/
def Obligations.UnknownOpcodeStep : Prop :=
  ∀ s : State, s.run = .steady → (s.mem.read s.pc).toNat ∈ undefinedOpcodes →
    ∃ t, step s = .next t ∧ t = { s with run := .fatal ⟨.unknownOpcode, s.mem.read s.pc, s.pc⟩ } ∧
      fatalError t = some ⟨.unknownOpcode, s.mem.read s.pc, s.pc⟩ ∧ FatalCause.unknownOpcode.code = 1

/-- 60_exceptions.md R243. That the returned error is a fault outcome is the model's form (log entry 4). -/
def Obligations.FatalIsAbsorbing : Prop :=
  ∀ (s : State) (r : FatalRecord), s.run = .fatal r →
    step s = .fault (.fatal r) ∧ (∀ n, run n s = .fault (.fatal r)) ∧ interrupt s = .next s ∧
      nonMaskableInterrupt s = .next s

/-- 10_state.md R34, 70_reset_and_hazards.md R271, R273: calls before boot and a second boot are refused; a ROM image that is too long fails.
The outcome carries no state: the core stays as it was. -/
def Obligations.CallsOutsideTheLifecycle : Prop :=
  ∀ (s : State) (spInit : Byte) (rom : List Byte) (n : Nat),
    (s.run = .unbooted → step s = .refused .unbooted ∧ run n s = .refused .unbooted ∧ interrupt s = .refused .unbooted ∧
      nonMaskableInterrupt s = .refused .unbooted) ∧
    (s.run = .unbooted → 65536 < rom.length → boot spInit rom s = .fault .malformedRom) ∧
    (s.run ≠ .unbooted → boot spInit rom s = .refused .bootTwice)

/-- Whole machine (60_exceptions.md R240, R253): a Steady core always answers a next state, Steady again or Fatal by one of the two
causes a step can raise; it never faults and never refuses. -/
def Obligations.SteadyStepsAnswer : Prop :=
  ∀ s : State, s.run = .steady →
    ∃ t, step s = .next t ∧
      (t.run = .steady ∨ ∃ r, t.run = .fatal r ∧ (r.cause = .unknownOpcode ∨ r.cause = .unimplementedFeature))

/-- 60_exceptions.md R244: a fatal step changes nothing but Run, and records the byte at PC and its address. -/
def Obligations.FatalErrorsArePrecise : Prop :=
  ∀ (s t : State) (r : FatalRecord), s.run = .steady → step s = .next t → t.run = .fatal r →
    t = { s with run := .fatal r } ∧ r.pc = s.pc ∧ r.opcode = s.mem.read s.pc

/-- 42_alu.md R152, 60_exceptions.md R242: among the instructions exactly ADC and SBC with D = 1 are fatal, and then nothing else is
written. -/
def Obligations.OnlyDecimalAddSubIsFatal : Prop :=
  ∀ (i : Instr) (s : State), s.run = .steady →
    ((i.mnemonic = .adc ∨ i.mnemonic = .sbc) ∧ s.flag .d = true →
      ∃ op, (encode i).head? = some op ∧
        exec i s = .next { s with run := .fatal ⟨.unimplementedFeature, op, s.pc⟩ } ∧
        FatalCause.unimplementedFeature.code = 2) ∧
    (¬((i.mnemonic = .adc ∨ i.mnemonic = .sbc) ∧ s.flag .d = true) → ∃ t, exec i s = .next t ∧ t.run = .steady)

/-- 41_load_store.md R130. -/
def Obligations.LdaLoadsTheOperand : Prop :=
  ∀ (s : State) (n : Byte) (w : Word), ∀ r ∈ ([⟨0xA9#8, .ldaImm n, .imm n⟩, ⟨0xA5#8, .ldaZp n, .zp n⟩, ⟨0xB5#8, .ldaZpx n, .zpx n⟩,
                             ⟨0xAD#8, .ldaAbs w, .abs w⟩, ⟨0xBD#8, .ldaAbx w, .abx w⟩, ⟨0xB9#8, .ldaAby w, .aby w⟩,
                             ⟨0xA1#8, .ldaIzx n, .izx n⟩, ⟨0xB1#8, .ldaIzy n, .izy n⟩] : List Row),
    r.Does s fun t => t.a = operandValue r.operand s ∧ NZ (operandValue r.operand s) t ∧ Advances r.operand s t ∧
      Frame [.a, .flag .z, .flag .n] [] s t

/-- 41_load_store.md R131. -/
def Obligations.LdxLoadsTheOperand : Prop :=
  ∀ (s : State) (n : Byte) (w : Word), ∀ r ∈ ([⟨0xA2#8, .ldxImm n, .imm n⟩, ⟨0xA6#8, .ldxZp n, .zp n⟩, ⟨0xB6#8, .ldxZpy n, .zpy n⟩,
                             ⟨0xAE#8, .ldxAbs w, .abs w⟩, ⟨0xBE#8, .ldxAby w, .aby w⟩] : List Row),
    r.Does s fun t => t.x = operandValue r.operand s ∧ NZ (operandValue r.operand s) t ∧ Advances r.operand s t ∧
      Frame [.x, .flag .z, .flag .n] [] s t

/-- 41_load_store.md R132. -/
def Obligations.LdyLoadsTheOperand : Prop :=
  ∀ (s : State) (n : Byte) (w : Word), ∀ r ∈ ([⟨0xA0#8, .ldyImm n, .imm n⟩, ⟨0xA4#8, .ldyZp n, .zp n⟩, ⟨0xB4#8, .ldyZpx n, .zpx n⟩,
                             ⟨0xAC#8, .ldyAbs w, .abs w⟩, ⟨0xBC#8, .ldyAbx w, .abx w⟩] : List Row),
    r.Does s fun t => t.y = operandValue r.operand s ∧ NZ (operandValue r.operand s) t ∧ Advances r.operand s t ∧
      Frame [.y, .flag .z, .flag .n] [] s t

/-- 41_load_store.md R133 to R135: the byte at EA takes the register; no flag and no other byte changes. -/
def Obligations.StoresWriteTheRegister : Prop :=
  ∀ (s : State) (n : Byte) (w : Word),
    ∀ q ∈ ([(⟨0x85#8, .staZp n, .zp n⟩, s.a), (⟨0x95#8, .staZpx n, .zpx n⟩, s.a), (⟨0x8D#8, .staAbs w, .abs w⟩, s.a),
           (⟨0x9D#8, .staAbx w, .abx w⟩, s.a), (⟨0x99#8, .staAby w, .aby w⟩, s.a), (⟨0x81#8, .staIzx n, .izx n⟩, s.a),
           (⟨0x91#8, .staIzy n, .izy n⟩, s.a), (⟨0x86#8, .stxZp n, .zp n⟩, s.x), (⟨0x96#8, .stxZpy n, .zpy n⟩, s.x),
           (⟨0x8E#8, .stxAbs w, .abs w⟩, s.x), (⟨0x84#8, .styZp n, .zp n⟩, s.y), (⟨0x94#8, .styZpx n, .zpx n⟩, s.y),
           (⟨0x8C#8, .styAbs w, .abs w⟩, s.y)] : List (Row × Byte)),
    q.1.Does s fun t => ∃ a, target q.1.operand s = .address a ∧ t.mem.read a = q.2 ∧ Advances q.1.operand s t ∧
      Frame [] [a] s t

/-- 41_load_store.md R136 to R141: TXS is the one transfer that writes no flag. -/
def Obligations.TransfersCopyTheRegister : Prop :=
  ∀ s : State,
    Row.Does ⟨0xAA#8, .tax, .imp⟩ s (fun t => t.x = s.a ∧ NZ s.a t ∧ Advances .imp s t ∧ Frame [.x, .flag .z, .flag .n] [] s t) ∧
    Row.Does ⟨0xA8#8, .tay, .imp⟩ s (fun t => t.y = s.a ∧ NZ s.a t ∧ Advances .imp s t ∧ Frame [.y, .flag .z, .flag .n] [] s t) ∧
    Row.Does ⟨0x8A#8, .txa, .imp⟩ s (fun t => t.a = s.x ∧ NZ s.x t ∧ Advances .imp s t ∧ Frame [.a, .flag .z, .flag .n] [] s t) ∧
    Row.Does ⟨0x98#8, .tya, .imp⟩ s (fun t => t.a = s.y ∧ NZ s.y t ∧ Advances .imp s t ∧ Frame [.a, .flag .z, .flag .n] [] s t) ∧
    Row.Does ⟨0xBA#8, .tsx, .imp⟩ s (fun t => t.x = s.sp ∧ NZ s.sp t ∧ Advances .imp s t ∧ Frame [.x, .flag .z, .flag .n] [] s t) ∧
    Row.Does ⟨0x9A#8, .txs, .imp⟩ s (fun t => t.sp = s.x ∧ Advances .imp s t ∧ Frame [.sp] [] s t)

/-- 42_alu.md R155 over the adder of R151, and the decimal check of R152. -/
def Obligations.AdcAddsWithCarry : Prop :=
  ∀ (s : State) (n : Byte) (w : Word), ∀ r ∈ ([⟨0x69#8, .adcImm n, .imm n⟩, ⟨0x65#8, .adcZp n, .zp n⟩, ⟨0x75#8, .adcZpx n, .zpx n⟩,
                             ⟨0x6D#8, .adcAbs w, .abs w⟩, ⟨0x7D#8, .adcAbx w, .abx w⟩, ⟨0x79#8, .adcAby w, .aby w⟩,
                             ⟨0x61#8, .adcIzx n, .izx n⟩, ⟨0x71#8, .adcIzy n, .izy n⟩] : List Row),
    (s.flag .d = false → r.Does s fun t =>
      (t.a.toNat : Int) = ((s.a.toNat : Int) + (operandValue r.operand s).toNat + (s.flag .c).toNat) % 256 ∧
      t.flag .c = decide (256 ≤ (s.a.toNat : Int) + (operandValue r.operand s).toNat + (s.flag .c).toNat) ∧
      t.flag .v = decide (¬(-128 ≤ s.a.toInt + (operandValue r.operand s).toInt + (s.flag .c).toNat ∧
        s.a.toInt + (operandValue r.operand s).toInt + (s.flag .c).toNat ≤ 127)) ∧
      NZ t.a t ∧ Advances r.operand s t ∧ Frame [.a, .flag .c, .flag .v, .flag .z, .flag .n] [] s t) ∧
    (s.flag .d = true → r.Does s fun t => t = { s with run := .fatal ⟨.unimplementedFeature, r.opcode, s.pc⟩ })

/-- 42_alu.md R156 over the subtractor of R151, and the decimal check of R152. -/
def Obligations.SbcSubtractsWithBorrow : Prop :=
  ∀ (s : State) (n : Byte) (w : Word), ∀ r ∈ ([⟨0xE9#8, .sbcImm n, .imm n⟩, ⟨0xE5#8, .sbcZp n, .zp n⟩, ⟨0xF5#8, .sbcZpx n, .zpx n⟩,
                             ⟨0xED#8, .sbcAbs w, .abs w⟩, ⟨0xFD#8, .sbcAbx w, .abx w⟩, ⟨0xF9#8, .sbcAby w, .aby w⟩,
                             ⟨0xE1#8, .sbcIzx n, .izx n⟩, ⟨0xF1#8, .sbcIzy n, .izy n⟩] : List Row),
    (s.flag .d = false → r.Does s fun t =>
      (t.a.toNat : Int) = ((s.a.toNat : Int) - (operandValue r.operand s).toNat - (1 - (s.flag .c).toNat)) % 256 ∧
      t.flag .c = decide (0 ≤ (s.a.toNat : Int) - (operandValue r.operand s).toNat - (1 - (s.flag .c).toNat)) ∧
      t.flag .v = decide (¬(-128 ≤ s.a.toInt - (operandValue r.operand s).toInt - (1 - (s.flag .c).toNat) ∧
        s.a.toInt - (operandValue r.operand s).toInt - (1 - (s.flag .c).toNat) ≤ 127)) ∧
      NZ t.a t ∧ Advances r.operand s t ∧ Frame [.a, .flag .c, .flag .v, .flag .z, .flag .n] [] s t) ∧
    (s.flag .d = true → r.Does s fun t => t = { s with run := .fatal ⟨.unimplementedFeature, r.opcode, s.pc⟩ })

/-- 42_alu.md R156, corner cases: Sub(a, m, c) equals Add(a, ~m, c) in result, carry and overflow. -/
def Obligations.SubtractIsAddOfComplement : Prop :=
  ∀ (a m : Byte) (c : Bool), subWithBorrow a m c = addWithCarry a (~~~m) c

/-- 42_alu.md R157 to R159, bit by bit. -/
def Obligations.LogicCombinesBitwise : Prop :=
  ∀ (s : State) (n : Byte) (w : Word),
    ∀ q ∈ ([(⟨0x29#8, .andImm n, .imm n⟩, and), (⟨0x25#8, .andZp n, .zp n⟩, and), (⟨0x35#8, .andZpx n, .zpx n⟩, and),
           (⟨0x2D#8, .andAbs w, .abs w⟩, and), (⟨0x3D#8, .andAbx w, .abx w⟩, and), (⟨0x39#8, .andAby w, .aby w⟩, and),
           (⟨0x21#8, .andIzx n, .izx n⟩, and), (⟨0x31#8, .andIzy n, .izy n⟩, and), (⟨0x09#8, .oraImm n, .imm n⟩, or),
           (⟨0x05#8, .oraZp n, .zp n⟩, or), (⟨0x15#8, .oraZpx n, .zpx n⟩, or), (⟨0x0D#8, .oraAbs w, .abs w⟩, or),
           (⟨0x1D#8, .oraAbx w, .abx w⟩, or), (⟨0x19#8, .oraAby w, .aby w⟩, or), (⟨0x01#8, .oraIzx n, .izx n⟩, or),
           (⟨0x11#8, .oraIzy n, .izy n⟩, or), (⟨0x49#8, .eorImm n, .imm n⟩, xor), (⟨0x45#8, .eorZp n, .zp n⟩, xor),
           (⟨0x55#8, .eorZpx n, .zpx n⟩, xor), (⟨0x4D#8, .eorAbs w, .abs w⟩, xor), (⟨0x5D#8, .eorAbx w, .abx w⟩, xor),
           (⟨0x59#8, .eorAby w, .aby w⟩, xor), (⟨0x41#8, .eorIzx n, .izx n⟩, xor), (⟨0x51#8, .eorIzy n, .izy n⟩, xor)] : List (Row × (Bool → Bool → Bool))),
    q.1.Does s fun t => (∀ k < 8, t.a.getLsbD k = q.2 (s.a.getLsbD k) ((operandValue q.1.operand s).getLsbD k)) ∧
      NZ t.a t ∧ Advances q.1.operand s t ∧ Frame [.a, .flag .z, .flag .n] [] s t

/-- 42_alu.md R160 to R162 over the comparator of R153. -/
def Obligations.ComparesSetCarryZeroNegative : Prop :=
  ∀ (s : State) (n : Byte) (w : Word),
    ∀ q ∈ ([(⟨0xC9#8, .cmpImm n, .imm n⟩, s.a), (⟨0xC5#8, .cmpZp n, .zp n⟩, s.a), (⟨0xD5#8, .cmpZpx n, .zpx n⟩, s.a),
           (⟨0xCD#8, .cmpAbs w, .abs w⟩, s.a), (⟨0xDD#8, .cmpAbx w, .abx w⟩, s.a), (⟨0xD9#8, .cmpAby w, .aby w⟩, s.a),
           (⟨0xC1#8, .cmpIzx n, .izx n⟩, s.a), (⟨0xD1#8, .cmpIzy n, .izy n⟩, s.a), (⟨0xE0#8, .cpxImm n, .imm n⟩, s.x),
           (⟨0xE4#8, .cpxZp n, .zp n⟩, s.x), (⟨0xEC#8, .cpxAbs w, .abs w⟩, s.x), (⟨0xC0#8, .cpyImm n, .imm n⟩, s.y),
           (⟨0xC4#8, .cpyZp n, .zp n⟩, s.y), (⟨0xCC#8, .cpyAbs w, .abs w⟩, s.y)] : List (Row × Byte)),
    q.1.Does s fun t =>
      t.flag .c = decide ((operandValue q.1.operand s).toNat ≤ q.2.toNat) ∧
      t.flag .z = decide (q.2 = operandValue q.1.operand s) ∧
      t.flag .n = decide (128 ≤ (q.2.toNat + 256 - (operandValue q.1.operand s).toNat) % 256) ∧
      Advances q.1.operand s t ∧ Frame [.flag .c, .flag .z, .flag .n] [] s t

/-- 42_alu.md R163: Z from A & M, V and N from M. -/
def Obligations.BitTestsTheOperand : Prop :=
  ∀ (s : State) (n : Byte) (w : Word), ∀ r ∈ ([⟨0x24#8, .bitZp n, .zp n⟩, ⟨0x2C#8, .bitAbs w, .abs w⟩] : List Row),
    r.Does s fun t =>
      t.flag .z = decide (s.a &&& operandValue r.operand s = 0#8) ∧ t.flag .v = (operandValue r.operand s).getLsbD 6 ∧
      t.flag .n = (operandValue r.operand s).getLsbD 7 ∧ Advances r.operand s t ∧
      Frame [.flag .z, .flag .v, .flag .n] [] s t

/-- 42_alu.md R164, R165. -/
def Obligations.IncDecModifyTheByte : Prop :=
  ∀ (s : State) (n : Byte) (w : Word),
    ∀ q ∈ ([(⟨0xE6#8, .incZp n, .zp n⟩, 1), (⟨0xF6#8, .incZpx n, .zpx n⟩, 1), (⟨0xEE#8, .incAbs w, .abs w⟩, 1),
           (⟨0xFE#8, .incAbx w, .abx w⟩, 1), (⟨0xC6#8, .decZp n, .zp n⟩, 255), (⟨0xD6#8, .decZpx n, .zpx n⟩, 255),
           (⟨0xCE#8, .decAbs w, .abs w⟩, 255), (⟨0xDE#8, .decAbx w, .abx w⟩, 255)] : List (Row × Nat)),
    q.1.Does s fun t => ∃ a, target q.1.operand s = .address a ∧
      (t.mem.read a).toNat = ((operandValue q.1.operand s).toNat + q.2) % 256 ∧ NZ (t.mem.read a) t ∧
      Advances q.1.operand s t ∧ Frame [.flag .z, .flag .n] [a] s t

/-- 42_alu.md R166 to R169. -/
def Obligations.IndexIncrementsAndDecrements : Prop :=
  ∀ s : State,
    Row.Does ⟨0xE8#8, .inx, .imp⟩ s (fun t => t.x.toNat = (s.x.toNat + 1) % 256 ∧ NZ t.x t ∧ Advances .imp s t ∧
      Frame [.x, .flag .z, .flag .n] [] s t) ∧
    Row.Does ⟨0xC8#8, .iny, .imp⟩ s (fun t => t.y.toNat = (s.y.toNat + 1) % 256 ∧ NZ t.y t ∧ Advances .imp s t ∧
      Frame [.y, .flag .z, .flag .n] [] s t) ∧
    Row.Does ⟨0xCA#8, .dex, .imp⟩ s (fun t => t.x.toNat = (s.x.toNat + 255) % 256 ∧ NZ t.x t ∧ Advances .imp s t ∧
      Frame [.x, .flag .z, .flag .n] [] s t) ∧
    Row.Does ⟨0x88#8, .dey, .imp⟩ s (fun t => t.y.toNat = (s.y.toNat + 255) % 256 ∧ NZ t.y t ∧ Advances .imp s t ∧
      Frame [.y, .flag .z, .flag .n] [] s t)

/-- 42_alu.md R170, R171: the function gives the result from M, the number the bit of M that goes to C. -/
def Obligations.ShiftsMoveOneBit : Prop :=
  ∀ (s : State) (n : Byte) (w : Word),
    ∀ q ∈ ([(⟨0x0A#8, .aslAcc, .acc⟩, fun m => m * 2 % 256, 7), (⟨0x06#8, .aslZp n, .zp n⟩, fun m => m * 2 % 256, 7),
           (⟨0x16#8, .aslZpx n, .zpx n⟩, fun m => m * 2 % 256, 7),
           (⟨0x0E#8, .aslAbs w, .abs w⟩, fun m => m * 2 % 256, 7),
           (⟨0x1E#8, .aslAbx w, .abx w⟩, fun m => m * 2 % 256, 7), (⟨0x4A#8, .lsrAcc, .acc⟩, fun m => m / 2, 0),
           (⟨0x46#8, .lsrZp n, .zp n⟩, fun m => m / 2, 0), (⟨0x56#8, .lsrZpx n, .zpx n⟩, fun m => m / 2, 0),
           (⟨0x4E#8, .lsrAbs w, .abs w⟩, fun m => m / 2, 0), (⟨0x5E#8, .lsrAbx w, .abx w⟩, fun m => m / 2, 0)] : List (Row × (Nat → Nat) × Nat)),
    q.1.Does s fun t => ∃ v : Byte, v.toNat = q.2.1 (operandValue q.1.operand s).toNat ∧ HeldAt (target q.1.operand s) v t ∧
      target q.1.operand s ≠ .nothing ∧ t.flag .c = (operandValue q.1.operand s).getLsbD q.2.2 ∧ NZ v t ∧
      Advances q.1.operand s t ∧
      Frame (targetPieces (target q.1.operand s) ++ [.flag .c, .flag .z, .flag .n])
        (targetAddresses (target q.1.operand s)) s t

/-- 42_alu.md R172, R173: the old carry enters at bit 0 or bit 7. -/
def Obligations.RotatesMoveTheCarryIn : Prop :=
  ∀ (s : State) (n : Byte) (w : Word),
    ∀ q ∈ ([(⟨0x2A#8, .rolAcc, .acc⟩, fun m => m * 2 % 256 + (s.flag .c).toNat, 7),
           (⟨0x26#8, .rolZp n, .zp n⟩, fun m => m * 2 % 256 + (s.flag .c).toNat, 7),
           (⟨0x36#8, .rolZpx n, .zpx n⟩, fun m => m * 2 % 256 + (s.flag .c).toNat, 7),
           (⟨0x2E#8, .rolAbs w, .abs w⟩, fun m => m * 2 % 256 + (s.flag .c).toNat, 7),
           (⟨0x3E#8, .rolAbx w, .abx w⟩, fun m => m * 2 % 256 + (s.flag .c).toNat, 7),
           (⟨0x6A#8, .rorAcc, .acc⟩, fun m => (s.flag .c).toNat * 128 + m / 2, 0),
           (⟨0x66#8, .rorZp n, .zp n⟩, fun m => (s.flag .c).toNat * 128 + m / 2, 0),
           (⟨0x76#8, .rorZpx n, .zpx n⟩, fun m => (s.flag .c).toNat * 128 + m / 2, 0),
           (⟨0x6E#8, .rorAbs w, .abs w⟩, fun m => (s.flag .c).toNat * 128 + m / 2, 0),
           (⟨0x7E#8, .rorAbx w, .abx w⟩, fun m => (s.flag .c).toNat * 128 + m / 2, 0)] : List (Row × (Nat → Nat) × Nat)),
    q.1.Does s fun t => ∃ v : Byte, v.toNat = q.2.1 (operandValue q.1.operand s).toNat ∧ HeldAt (target q.1.operand s) v t ∧
      target q.1.operand s ≠ .nothing ∧ t.flag .c = (operandValue q.1.operand s).getLsbD q.2.2 ∧ NZ v t ∧
      Advances q.1.operand s t ∧
      Frame (targetPieces (target q.1.operand s) ++ [.flag .c, .flag .z, .flag .n])
        (targetAddresses (target q.1.operand s)) s t

/-- 43_flags_nop.md R190 to R197: each writes its one flag; NOP writes none. -/
def Obligations.FlagInstructionsWriteOneFlag : Prop :=
  ∀ s : State,
    (∀ q ∈ ([(⟨0x18#8, .clc, .imp⟩, .c, false), (⟨0x38#8, .sec, .imp⟩, .c, true), (⟨0x58#8, .cli, .imp⟩, .i, false),
             (⟨0x78#8, .sei, .imp⟩, .i, true), (⟨0xD8#8, .cld, .imp⟩, .d, false), (⟨0xF8#8, .sed, .imp⟩, .d, true),
             (⟨0xB8#8, .clv, .imp⟩, .v, false)] : List (Row × PFlag × Bool)),
      q.1.Does s fun t => t.flag q.2.1 = q.2.2 ∧ Advances .imp s t ∧ Frame [.flag q.2.1] [] s t) ∧
    Row.Does ⟨0xEA#8, .nop, .imp⟩ s (fun t => t = { s with pc := s.pc + 1#16 })

/-- 44_stack.md R200, R202: A, or P exactly as stored. -/
def Obligations.PushesStoreTheByte : Prop :=
  ∀ s : State,
    ∀ q ∈ ([(⟨0x48#8, .pha, .imp⟩, s.a), (⟨0x08#8, .php, .imp⟩, s.p)] : List (Row × Byte)),
    q.1.Does s fun t => t.mem.read (stackAddress s.sp) = q.2 ∧ t.sp.toNat = (s.sp.toNat + 255) % 256 ∧ Advances .imp s t ∧
      Frame [.sp] [stackAddress s.sp] s t

/-- 44_stack.md R201, R203. -/
def Obligations.PullsLoadTheByte : Prop :=
  ∀ s : State,
    Row.Does ⟨0x68#8, .pla, .imp⟩ s (fun t => t.a = s.mem.read (stackAddress (s.sp + 1#8)) ∧ NZ t.a t ∧
      t.sp.toNat = (s.sp.toNat + 1) % 256 ∧ Advances .imp s t ∧ Frame [.a, .sp, .flag .z, .flag .n] [] s t) ∧
    Row.Does ⟨0x28#8, .plp, .imp⟩ s (fun t => t.p = s.mem.read (stackAddress (s.sp + 1#8)) ∧
      t.sp.toNat = (s.sp.toNat + 1) % 256 ∧ Advances .imp s t ∧ Frame (.sp :: allOfP) [] s t)

/-- 45_control.md R210: no page-wrap quirk in the indirect form. -/
def Obligations.JumpsSetPc : Prop :=
  ∀ (s : State) (w : Word),
    Row.Does ⟨0x4C#8, .jmpAbs w, .abs w⟩ s (fun t => t.pc = w ∧ Frame [] [] s t) ∧
    Row.Does ⟨0x6C#8, .jmpInd w, .ind w⟩ s (fun t =>
      t.pc.toNat = twoBytes s.mem (BitVec.ofNat 16 ((w.toNat + 1) % 65536)) w ∧ Frame [] [] s t)

/-- 45_control.md R211. -/
def Obligations.JsrPushesItsLastByte : Prop :=
  ∀ (s : State) (w : Word),
    Row.Does ⟨0x20#8, .jsr w, .abs w⟩ s (fun t => t.pc = w ∧ t.mem.read (stackAddress s.sp) = hi (s.pc + 2#16) ∧
      t.mem.read (stackAddress (s.sp - 1#8)) = lo (s.pc + 2#16) ∧ t.sp.toNat = (s.sp.toNat + 254) % 256 ∧
      Frame [.sp] [stackAddress s.sp, stackAddress (s.sp - 1#8)] s t)

/-- 45_control.md R212. -/
def Obligations.RtsReturnsPastTheWord : Prop :=
  ∀ s : State,
    Row.Does ⟨0x60#8, .rts, .imp⟩ s (fun t =>
      t.pc.toNat = (twoBytes s.mem (stackAddress (s.sp + 2#8)) (stackAddress (s.sp + 1#8)) + 1) % 65536 ∧
      t.sp.toNat = (s.sp.toNat + 2) % 256 ∧ Frame [.sp] [] s t)

/-- 45_control.md R213 to R221. -/
def Obligations.BranchesFollowTheirFlag : Prop :=
  ∀ (s : State) (n : Byte),
    ∀ q ∈ ([(⟨0x90#8, .bcc n, .rel n⟩, s.flag .c = false), (⟨0xB0#8, .bcs n, .rel n⟩, s.flag .c = true),
           (⟨0xF0#8, .beq n, .rel n⟩, s.flag .z = true), (⟨0x30#8, .bmi n, .rel n⟩, s.flag .n = true),
           (⟨0xD0#8, .bne n, .rel n⟩, s.flag .z = false), (⟨0x10#8, .bpl n, .rel n⟩, s.flag .n = false),
           (⟨0x50#8, .bvc n, .rel n⟩, s.flag .v = false), (⟨0x70#8, .bvs n, .rel n⟩, s.flag .v = true)] : List (Row × Prop)),
    q.1.Does s fun t =>
      (q.2 → (t.pc.toNat : Int) = ((s.pc.toNat : Int) + 2 + n.toInt) % 65536) ∧
      (¬q.2 → t.pc.toNat = (s.pc.toNat + 2) % 65536) ∧ Frame [] [] s t

/-- 45_control.md R222 with the entry of 60_exceptions.md R245: taken whatever I is; the pushed P is the one before B and I are written. -/
def Obligations.BrkEntersTheHandler : Prop :=
  ∀ s : State,
    Row.Does ⟨0x00#8, .brk, .imp⟩ s (fun t => t.mem.read (stackAddress s.sp) = hi (s.pc + 2#16) ∧ t.mem.read (stackAddress (s.sp - 1#8)) = lo (s.pc + 2#16) ∧
      t.mem.read (stackAddress (s.sp - 2#8)) = s.p ∧ t.sp.toNat = (s.sp.toNat + 253) % 256 ∧ t.flag .b = true ∧
      t.flag .i = true ∧ t.pc.toNat = twoBytes s.mem 0xFFFF#16 0xFFFE#16 ∧
      Frame [.sp, .flag .b, .flag .i] [stackAddress s.sp, stackAddress (s.sp - 1#8), stackAddress (s.sp - 2#8)] s t)

/-- 45_control.md R223. -/
def Obligations.RtiRestoresStatusAndPc : Prop :=
  ∀ s : State,
    Row.Does ⟨0x40#8, .rti, .imp⟩ s (fun t => t.p = s.mem.read (stackAddress (s.sp + 1#8)) ∧
      t.pc.toNat = twoBytes s.mem (stackAddress (s.sp + 3#8)) (stackAddress (s.sp + 2#8)) ∧
      t.sp.toNat = (s.sp.toNat + 3) % 256 ∧ Frame (.sp :: allOfP) [] s t)

/-- 10_state.md R33, 70_reset_and_hazards.md R270, for every SP_INIT, every ROM image that fits and every content of memory before boot. -/
def Obligations.BootSetsEveryPiece : Prop :=
  ∀ (s : State) (spInit : Byte) (rom : List Byte), s.run = .unbooted → rom.length ≤ 65536 →
    ∃ t, boot spInit rom s = .next t ∧ t.a = 0x00#8 ∧ t.x = 0x00#8 ∧ t.y = 0x00#8 ∧ t.sp = spInit ∧ t.p = 0x04#8 ∧
      t.flag .i = true ∧ t.run = .steady ∧ t.pc.toNat = twoBytes t.mem 0xFFFD#16 0xFFFC#16 ∧
      ∀ b : Word, t.mem.read b = if b.toNat < rom.length then rom.getD b.toNat 0#8 else s.mem.read b

/-- State.reset is what boot of an empty ROM image leaves; A, X, Y, P, Run and the vector read are R33's, while SP_INIT and the bytes
before boot are the model's choices (log entries 1 to 3). -/
def Obligations.ResetIsBootOfAnEmptyRom : Prop :=
  ∀ s : State, s.run = .unbooted → s.mem = [] →
    boot Config.spInit [] s = .next State.reset ∧ State.reset.a = 0x00#8 ∧ State.reset.x = 0x00#8 ∧ State.reset.y = 0x00#8 ∧
      State.reset.p = 0x04#8 ∧ State.reset.run = .steady ∧
      State.reset.pc.toNat = twoBytes State.reset.mem 0xFFFD#16 0xFFFC#16

/-- 60_exceptions.md R246: discarded without a trace while I is 1, taken while it is 0. -/
def Obligations.IrqIsGatedByI : Prop :=
  ∀ s : State, s.run = .steady →
    (s.flag .i = true → interrupt s = .next s) ∧
    (s.flag .i = false → ∃ t, interrupt s = .next t ∧ t.mem.read (stackAddress s.sp) = hi (s.pc) ∧ t.mem.read (stackAddress (s.sp - 1#8)) = lo (s.pc) ∧
      t.mem.read (stackAddress (s.sp - 2#8)) = s.p ∧ t.sp.toNat = (s.sp.toNat + 253) % 256 ∧ t.flag .b = false ∧
      t.flag .i = true ∧ t.pc.toNat = twoBytes s.mem 0xFFFF#16 0xFFFE#16 ∧
      Frame [.sp, .flag .b, .flag .i] [stackAddress s.sp, stackAddress (s.sp - 1#8), stackAddress (s.sp - 2#8)] s t)

/-- 60_exceptions.md R247: whatever I is. -/
def Obligations.NmiIsNeverMasked : Prop :=
  ∀ s : State, s.run = .steady →
    ∃ t, nonMaskableInterrupt s = .next t ∧ t.mem.read (stackAddress s.sp) = hi (s.pc) ∧ t.mem.read (stackAddress (s.sp - 1#8)) = lo (s.pc) ∧
      t.mem.read (stackAddress (s.sp - 2#8)) = s.p ∧ t.sp.toNat = (s.sp.toNat + 253) % 256 ∧ t.flag .b = false ∧
      t.flag .i = true ∧ t.pc.toNat = twoBytes s.mem 0xFFFB#16 0xFFFA#16 ∧
      Frame [.sp, .flag .b, .flag .i] [stackAddress s.sp, stackAddress (s.sp - 1#8), stackAddress (s.sp - 2#8)] s t

/-- 60_exceptions.md R251, 45_control.md R223: after an entry (IRQ, NMI or BRK), RTI from any state whose SP and three stacked bytes are as
the entry left them restores P, SP and the return address. -/
def Obligations.InterruptsReturnExactly : Prop :=
  ∀ (s t u : State), s.run = .steady →
    u.sp = t.sp → u.mem.read (stackAddress s.sp) = t.mem.read (stackAddress s.sp) →
    u.mem.read (stackAddress (s.sp - 1#8)) = t.mem.read (stackAddress (s.sp - 1#8)) →
    u.mem.read (stackAddress (s.sp - 2#8)) = t.mem.read (stackAddress (s.sp - 2#8)) →
    ((s.flag .i = false ∧ interrupt s = .next t) ∨ nonMaskableInterrupt s = .next t →
      ∃ v, exec .rti u = .next v ∧ v.p = s.p ∧ v.sp = s.sp ∧ v.pc = s.pc) ∧
    (exec .brk s = .next t → ∃ v, exec .rti u = .next v ∧ v.p = s.p ∧ v.sp = s.sp ∧ v.pc = s.pc + 2#16)

/-- 45_control.md R211, R212; 44_stack.md R200 to R203: JSR with RTS, PHA with PLA and PHP with PLP are inverse when the stacked bytes
and SP are kept between. -/
def Obligations.CallsReturnExactly : Prop :=
  ∀ (s t u : State) (w : Word),
    u.sp = t.sp → u.mem.read (stackAddress s.sp) = t.mem.read (stackAddress s.sp) →
    (exec (.jsr w) s = .next t → u.mem.read (stackAddress (s.sp - 1#8)) = t.mem.read (stackAddress (s.sp - 1#8)) →
      ∃ v, exec .rts u = .next v ∧ v.pc = s.pc + 3#16 ∧ v.sp = s.sp) ∧
    (exec .pha s = .next t → ∃ v, exec .pla u = .next v ∧ v.a = s.a ∧ v.sp = s.sp) ∧
    (exec .php s = .next t → ∃ v, exec .plp u = .next v ∧ v.p = s.p ∧ v.sp = s.sp)

/-- 40_execution.md R114: run(0) changes nothing, run(1) is execute(), a run goes on where the first part ended and stops at a fatal error. -/
def Obligations.RunIsRepeatedExecute : Prop :=
  ∀ (s : State) (j k : Nat), s.run = .steady →
    run 0 s = .next s ∧ run 1 s = step s ∧
    ∀ t, run j s = .next t →
      (t.run = .steady → run (j + k) s = run k t) ∧ (∀ r, t.run = .fatal r → run (j + k) s = .next t)

/-- Whole machine, 10_state.md R25, "written by" column and its "no other instruction touches it". -/
def Obligations.FlagsHaveTheirWriters : Prop :=
  ∀ (i : Instr) (s t : State), exec i s = .next t →
    (∀ f : PFlag, t.flag f ≠ s.flag f → i.mnemonic ∈ flagWriters f) ∧
    (t.bit5 ≠ s.bit5 → i.mnemonic = .plp ∨ i.mnemonic = .rti) ∧
    (i.mnemonic = .brk → t.flag .b = true ∧ t.flag .i = true)

/-- Whole machine, 10_state.md R21 to R23 and R28: who writes A, X, Y and SP. -/
def Obligations.RegistersHaveTheirWriters : Prop :=
  ∀ (i : Instr) (s t : State), exec i s = .next t →
    (t.a ≠ s.a → i.mnemonic ∈ [Mnemonic.lda, .pla, .txa, .tya, .adc, .sbc, .and, .ora, .eor] ∨
      i.mode = .accumulator ∧ i.mnemonic ∈ [Mnemonic.asl, .lsr, .rol, .ror]) ∧
    (t.x ≠ s.x → i.mnemonic ∈ [Mnemonic.ldx, .tax, .tsx, .inx, .dex]) ∧
    (t.y ≠ s.y → i.mnemonic ∈ [Mnemonic.ldy, .tay, .iny, .dey]) ∧
    (t.sp ≠ s.sp → i.mnemonic ∈ [Mnemonic.txs, .pha, .php, .pla, .plp, .jsr, .rts, .brk, .rti])

/-- Whole machine, 40_execution.md R112. -/
def Obligations.PcAdvancesByTheLength : Prop :=
  ∀ (i : Instr) (s t : State), exec i s = .next t → controlTransfer i.mnemonic = false →
    ((i.mnemonic = .adc ∨ i.mnemonic = .sbc) → s.flag .d = false) →
    t.pc.toNat = (s.pc.toNat + (encode i).length) % 65536

/-- Whole machine, 40_execution.md R115: an instruction writes memory only at EA (stores and read-modify-write forms) and at the stack bytes
it pushes. -/
def Obligations.MemoryIsWrittenOnlyAtTheTargets : Prop :=
  ∀ (i : Instr) (s t : State), exec i s = .next t → ∀ b, b ∉ writeSet i s → t.mem.read b = s.mem.read b

/-- Whole machine, 40_execution.md R115: what stands at an address the instruction does not read cannot show in what it does. -/
def Obligations.MemoryIsReadOnlyAtTheSources : Prop :=
  ∀ (i : Instr) (s : State) (b : Word) (v : Byte), b ∉ readSet i s →
    ∃ t u, exec i s = .next t ∧ exec i { s with mem := s.mem.write b v } = .next u ∧
      u.pc = t.pc ∧ u.sp = t.sp ∧ u.a = t.a ∧ u.x = t.x ∧ u.y = t.y ∧ u.p = t.p ∧ u.run = t.run ∧
      (∀ c, c ≠ b → u.mem.read c = t.mem.read c) ∧ (b ∈ writeSet i s → u.mem.read b = t.mem.read b)

/-- Whole machine, 10_state.md R25, "read by" column: a flag an instruction does not read cannot show in anything else. -/
def Obligations.FlagsHaveTheirReaders : Prop :=
  ∀ (i : Instr) (s : State) (f : PFlag) (b : Bool), i.mnemonic ∉ flagReaders f →
    ∃ t u, exec i s = .next t ∧ exec i (s.setFlag f b) = .next u ∧
      u.pc = t.pc ∧ u.sp = t.sp ∧ u.a = t.a ∧ u.x = t.x ∧ u.y = t.y ∧ u.mem = t.mem ∧ u.run = t.run ∧
      u.bit5 = t.bit5 ∧ ∀ g, g ≠ f → u.flag g = t.flag g

/-- 60_exceptions.md R244 and the memory's canonical form (log entry 10): from every state that has the invariant, whether or not a run
reaches it. -/
def Obligations.StepKeepsTheInvariant : Prop :=
  ∀ s t : State, CoreInv s → step s = .next t → CoreInv t

/-- 00_scope.md R9: for every call the host may make, boot and run(n) included, the invariant of `StepKeepsTheInvariant` is kept: the
fatal record's soundness is 60_exceptions.md R241, R242, R244, the memory's canonical form is the model's choice (log entry 10). -/
def Obligations.HostCallsKeepTheInvariant : Prop :=
  ∀ (spInit : Byte) (call : HostCall) (s t : State), CoreInv s → hostCall spInit call s = .next t → CoreInv t

/-- The invariant at the state after reset. The canonical form is the model's choice (log entry 10), and that memory lists nothing there
rests on log entries 2 (the unlisted byte) and 3 (an empty ROM image); that Run is Steady is 10_state.md R33. -/
def Obligations.ResetHasTheInvariant : Prop :=
  CoreInv State.reset
end

