-- ==== Sys2Proof/Laws/Fetch.lean ====
section
/-! SUPPORT. Fetch and step: three bytes are never too short, and what a step answers in each execution state. -/

namespace Sys2Proof.Machine

/-- A fetch fails only on an undefined opcode byte at PC (40_execution.md R111). -/
theorem fetchInstr_reject {s : State} {e : DecodeReject} (h : fetchInstr s = .reject e) :
    e = .undefinedOpcode (s.mem.read s.pc) ∧ opcodeRow (s.mem.read s.pc) = none := by
  unfold fetchInstr fetchBytes decode at h
  rcases hr : opcodeRow (s.mem.read s.pc) with _ | (i | i | i) <;> simp [hr] at h ⊢
  exact h.symm

theorem step_of_unbooted {s : State} (h : s.run = .unbooted) : step s = .refused .unbooted := by simp [step, h, unbootedStep]

theorem step_of_fatal {s : State} {r : FatalRecord} (h : s.run = .fatal r) : step s = .fault (.fatal r) := by
  simp [step, h, fatalStep]

theorem step_of_fetch {s : State} {i : Instr} {rest : List Byte} (h : s.run = .steady) (hf : fetchInstr s = .instr i rest) : step s = exec i s := by
  simp [step, h, hf]

theorem step_of_reject {s : State} {e : DecodeReject} (h : s.run = .steady) (hf : fetchInstr s = .reject e) :
    step s = .next (s.raiseFatal .unknownOpcode (s.mem.read s.pc)) := by
  simp [step, h, hf, rejectStep]

end Sys2Proof.Machine
end

