-- ==== Sys2Proof/Laws/State.lean ====
section
/-! SUPPORT. What each register write does to each field. -/

namespace Sys2Proof.Machine

@[simp] theorem State.pc_setPc (s : State) (v : Word) : (s.setPc v).pc = v := rfl
@[simp] theorem State.sp_setPc (s : State) (v : Word) : (s.setPc v).sp = s.sp := rfl
@[simp] theorem State.a_setPc (s : State) (v : Word) : (s.setPc v).a = s.a := rfl
@[simp] theorem State.x_setPc (s : State) (v : Word) : (s.setPc v).x = s.x := rfl
@[simp] theorem State.y_setPc (s : State) (v : Word) : (s.setPc v).y = s.y := rfl
@[simp] theorem State.p_setPc (s : State) (v : Word) : (s.setPc v).p = s.p := rfl
@[simp] theorem State.mem_setPc (s : State) (v : Word) : (s.setPc v).mem = s.mem := rfl
@[simp] theorem State.run_setPc (s : State) (v : Word) : (s.setPc v).run = s.run := rfl
@[simp] theorem State.pc_setSp (s : State) (v : Byte) : (s.setSp v).pc = s.pc := rfl
@[simp] theorem State.sp_setSp (s : State) (v : Byte) : (s.setSp v).sp = v := rfl
@[simp] theorem State.a_setSp (s : State) (v : Byte) : (s.setSp v).a = s.a := rfl
@[simp] theorem State.x_setSp (s : State) (v : Byte) : (s.setSp v).x = s.x := rfl
@[simp] theorem State.y_setSp (s : State) (v : Byte) : (s.setSp v).y = s.y := rfl
@[simp] theorem State.p_setSp (s : State) (v : Byte) : (s.setSp v).p = s.p := rfl
@[simp] theorem State.mem_setSp (s : State) (v : Byte) : (s.setSp v).mem = s.mem := rfl
@[simp] theorem State.run_setSp (s : State) (v : Byte) : (s.setSp v).run = s.run := rfl
@[simp] theorem State.pc_setA (s : State) (v : Byte) : (s.setA v).pc = s.pc := rfl
@[simp] theorem State.sp_setA (s : State) (v : Byte) : (s.setA v).sp = s.sp := rfl
@[simp] theorem State.a_setA (s : State) (v : Byte) : (s.setA v).a = v := rfl
@[simp] theorem State.x_setA (s : State) (v : Byte) : (s.setA v).x = s.x := rfl
@[simp] theorem State.y_setA (s : State) (v : Byte) : (s.setA v).y = s.y := rfl
@[simp] theorem State.p_setA (s : State) (v : Byte) : (s.setA v).p = s.p := rfl
@[simp] theorem State.mem_setA (s : State) (v : Byte) : (s.setA v).mem = s.mem := rfl
@[simp] theorem State.run_setA (s : State) (v : Byte) : (s.setA v).run = s.run := rfl
@[simp] theorem State.pc_setX (s : State) (v : Byte) : (s.setX v).pc = s.pc := rfl
@[simp] theorem State.sp_setX (s : State) (v : Byte) : (s.setX v).sp = s.sp := rfl
@[simp] theorem State.a_setX (s : State) (v : Byte) : (s.setX v).a = s.a := rfl
@[simp] theorem State.x_setX (s : State) (v : Byte) : (s.setX v).x = v := rfl
@[simp] theorem State.y_setX (s : State) (v : Byte) : (s.setX v).y = s.y := rfl
@[simp] theorem State.p_setX (s : State) (v : Byte) : (s.setX v).p = s.p := rfl
@[simp] theorem State.mem_setX (s : State) (v : Byte) : (s.setX v).mem = s.mem := rfl
@[simp] theorem State.run_setX (s : State) (v : Byte) : (s.setX v).run = s.run := rfl
@[simp] theorem State.pc_setY (s : State) (v : Byte) : (s.setY v).pc = s.pc := rfl
@[simp] theorem State.sp_setY (s : State) (v : Byte) : (s.setY v).sp = s.sp := rfl
@[simp] theorem State.a_setY (s : State) (v : Byte) : (s.setY v).a = s.a := rfl
@[simp] theorem State.x_setY (s : State) (v : Byte) : (s.setY v).x = s.x := rfl
@[simp] theorem State.y_setY (s : State) (v : Byte) : (s.setY v).y = v := rfl
@[simp] theorem State.p_setY (s : State) (v : Byte) : (s.setY v).p = s.p := rfl
@[simp] theorem State.mem_setY (s : State) (v : Byte) : (s.setY v).mem = s.mem := rfl
@[simp] theorem State.run_setY (s : State) (v : Byte) : (s.setY v).run = s.run := rfl
@[simp] theorem State.pc_setP (s : State) (v : Byte) : (s.setP v).pc = s.pc := rfl
@[simp] theorem State.sp_setP (s : State) (v : Byte) : (s.setP v).sp = s.sp := rfl
@[simp] theorem State.a_setP (s : State) (v : Byte) : (s.setP v).a = s.a := rfl
@[simp] theorem State.x_setP (s : State) (v : Byte) : (s.setP v).x = s.x := rfl
@[simp] theorem State.y_setP (s : State) (v : Byte) : (s.setP v).y = s.y := rfl
@[simp] theorem State.p_setP (s : State) (v : Byte) : (s.setP v).p = v := rfl
@[simp] theorem State.mem_setP (s : State) (v : Byte) : (s.setP v).mem = s.mem := rfl
@[simp] theorem State.run_setP (s : State) (v : Byte) : (s.setP v).run = s.run := rfl
@[simp] theorem State.pc_setMem (s : State) (v : Memory) : (s.setMem v).pc = s.pc := rfl
@[simp] theorem State.sp_setMem (s : State) (v : Memory) : (s.setMem v).sp = s.sp := rfl
@[simp] theorem State.a_setMem (s : State) (v : Memory) : (s.setMem v).a = s.a := rfl
@[simp] theorem State.x_setMem (s : State) (v : Memory) : (s.setMem v).x = s.x := rfl
@[simp] theorem State.y_setMem (s : State) (v : Memory) : (s.setMem v).y = s.y := rfl
@[simp] theorem State.p_setMem (s : State) (v : Memory) : (s.setMem v).p = s.p := rfl
@[simp] theorem State.mem_setMem (s : State) (v : Memory) : (s.setMem v).mem = v := rfl
@[simp] theorem State.run_setMem (s : State) (v : Memory) : (s.setMem v).run = s.run := rfl
@[simp] theorem State.pc_setRun (s : State) (v : RunState) : (s.setRun v).pc = s.pc := rfl
@[simp] theorem State.sp_setRun (s : State) (v : RunState) : (s.setRun v).sp = s.sp := rfl
@[simp] theorem State.a_setRun (s : State) (v : RunState) : (s.setRun v).a = s.a := rfl
@[simp] theorem State.x_setRun (s : State) (v : RunState) : (s.setRun v).x = s.x := rfl
@[simp] theorem State.y_setRun (s : State) (v : RunState) : (s.setRun v).y = s.y := rfl
@[simp] theorem State.p_setRun (s : State) (v : RunState) : (s.setRun v).p = s.p := rfl
@[simp] theorem State.mem_setRun (s : State) (v : RunState) : (s.setRun v).mem = s.mem := rfl
@[simp] theorem State.run_setRun (s : State) (v : RunState) : (s.setRun v).run = v := rfl

end Sys2Proof.Machine
end

