-- ==== Sys2Proof/Laws/Flags.lean ====
section
/-! SUPPORT. What each flag operation does to every flag, to bit 5 and to the registers. -/

namespace Sys2Proof.Machine

theorem getLsbD_putFlag (p : Byte) (f : PFlag) (b : Bool) (k : Nat) (hk : k < 8) :
    (putFlag p f b).getLsbD k = if k = f.bit then b else p.getLsbD k := by
  have hf : f.bit < 8 := by cases f <;> decide
  have mask : ∀ j < 8, ∀ k < 8, (1#8 <<< j).getLsbD k = decide (k = j) := by decide
  have one := mask _ hf _ hk
  unfold putFlag
  cases b <;> simp only [Bool.false_eq_true, if_true, if_false, BitVec.getLsbD_and, BitVec.getLsbD_or, BitVec.getLsbD_not, one] <;>
    by_cases h : k = f.bit <;> simp [h, hk, hf]

theorem bit_inj {f g : PFlag} : f.bit = g.bit ↔ f = g := by cases f <;> cases g <;> decide

/-- Every flag after one is written: that one is the value written, the others are as before. -/
@[simp] theorem State.flag_setFlag (s : State) (f g : PFlag) (b : Bool) :
    (s.setFlag f b).flag g = if g = f then b else s.flag g := by
  have hg : g.bit < 8 := by cases g <;> decide
  simp [State.flag, State.setFlag, getLsbD_putFlag _ _ _ _ hg, bit_inj]

@[simp] theorem State.bit5_setFlag (s : State) (f : PFlag) (b : Bool) : (s.setFlag f b).bit5 = s.bit5 := by
  
  have h : 5 ≠ f.bit := by cases f <;> decide
  simp only [State.bit5, State.setFlag, State.p_setP, getLsbD_putFlag _ _ _ 5 (by decide), if_neg h]

@[simp] theorem State.pc_setFlag (s : State) (f : PFlag) (b : Bool) : (s.setFlag f b).pc = s.pc := rfl
@[simp] theorem State.sp_setFlag (s : State) (f : PFlag) (b : Bool) : (s.setFlag f b).sp = s.sp := rfl
@[simp] theorem State.a_setFlag (s : State) (f : PFlag) (b : Bool) : (s.setFlag f b).a = s.a := rfl
@[simp] theorem State.x_setFlag (s : State) (f : PFlag) (b : Bool) : (s.setFlag f b).x = s.x := rfl
@[simp] theorem State.y_setFlag (s : State) (f : PFlag) (b : Bool) : (s.setFlag f b).y = s.y := rfl
@[simp] theorem State.mem_setFlag (s : State) (f : PFlag) (b : Bool) : (s.setFlag f b).mem = s.mem := rfl
@[simp] theorem State.run_setFlag (s : State) (f : PFlag) (b : Bool) : (s.setFlag f b).run = s.run := rfl

/-- `SetNZ` writes Z and N and no other flag (42_alu.md R150). -/
@[simp] theorem State.flag_setNZ (s : State) (v : Byte) (g : PFlag) :
    (s.setNZ v).flag g = if g = .n then v.getLsbD 7 else if g = .z then v == 0#8 else s.flag g := by
  simp [State.setNZ]

@[simp] theorem State.bit5_setNZ (s : State) (v : Byte) : (s.setNZ v).bit5 = s.bit5 := by simp [State.setNZ]
@[simp] theorem State.pc_setNZ (s : State) (v : Byte) : (s.setNZ v).pc = s.pc := rfl
@[simp] theorem State.sp_setNZ (s : State) (v : Byte) : (s.setNZ v).sp = s.sp := rfl
@[simp] theorem State.a_setNZ (s : State) (v : Byte) : (s.setNZ v).a = s.a := rfl
@[simp] theorem State.x_setNZ (s : State) (v : Byte) : (s.setNZ v).x = s.x := rfl
@[simp] theorem State.y_setNZ (s : State) (v : Byte) : (s.setNZ v).y = s.y := rfl
@[simp] theorem State.mem_setNZ (s : State) (v : Byte) : (s.setNZ v).mem = s.mem := rfl
@[simp] theorem State.run_setNZ (s : State) (v : Byte) : (s.setNZ v).run = s.run := rfl

/-- `Compare` writes C, Z and N of the byte difference and no other flag (42_alu.md R153). -/
@[simp] theorem State.flag_compare (s : State) (r m : Byte) (g : PFlag) :
    (s.compare r m).flag g =
      if g = .n then (r - m).getLsbD 7 else if g = .z then r == m
      else if g = .c then decide (m.toNat ≤ r.toNat) else s.flag g := by
  simp [State.compare]

@[simp] theorem State.bit5_compare (s : State) (r m : Byte) : (s.compare r m).bit5 = s.bit5 := by
  simp [State.compare]

@[simp] theorem State.pc_compare (s : State) (r m : Byte) : (s.compare r m).pc = s.pc := rfl
@[simp] theorem State.sp_compare (s : State) (r m : Byte) : (s.compare r m).sp = s.sp := rfl
@[simp] theorem State.a_compare (s : State) (r m : Byte) : (s.compare r m).a = s.a := rfl
@[simp] theorem State.x_compare (s : State) (r m : Byte) : (s.compare r m).x = s.x := rfl
@[simp] theorem State.y_compare (s : State) (r m : Byte) : (s.compare r m).y = s.y := rfl
@[simp] theorem State.mem_compare (s : State) (r m : Byte) : (s.compare r m).mem = s.mem := rfl
@[simp] theorem State.run_compare (s : State) (r m : Byte) : (s.compare r m).run = s.run := rfl

/-- The register and memory writes that leave P alone leave every flag alone. -/
@[simp] theorem State.flag_setPc (s : State) (v : Word) (f : PFlag) : (s.setPc v).flag f = s.flag f := rfl
@[simp] theorem State.flag_setSp (s : State) (v : Byte) (f : PFlag) : (s.setSp v).flag f = s.flag f := rfl
@[simp] theorem State.flag_setA (s : State) (v : Byte) (f : PFlag) : (s.setA v).flag f = s.flag f := rfl
@[simp] theorem State.flag_setX (s : State) (v : Byte) (f : PFlag) : (s.setX v).flag f = s.flag f := rfl
@[simp] theorem State.flag_setY (s : State) (v : Byte) (f : PFlag) : (s.setY v).flag f = s.flag f := rfl
@[simp] theorem State.flag_setMem (s : State) (m : Memory) (f : PFlag) : (s.setMem m).flag f = s.flag f := rfl
@[simp] theorem State.flag_setRun (s : State) (r : RunState) (f : PFlag) : (s.setRun r).flag f = s.flag f := rfl
@[simp] theorem State.bit5_setPc (s : State) (v : Word) : (s.setPc v).bit5 = s.bit5 := rfl
@[simp] theorem State.bit5_setSp (s : State) (v : Byte) : (s.setSp v).bit5 = s.bit5 := rfl
@[simp] theorem State.bit5_setA (s : State) (v : Byte) : (s.setA v).bit5 = s.bit5 := rfl
@[simp] theorem State.bit5_setX (s : State) (v : Byte) : (s.setX v).bit5 = s.bit5 := rfl
@[simp] theorem State.bit5_setY (s : State) (v : Byte) : (s.setY v).bit5 = s.bit5 := rfl
@[simp] theorem State.bit5_setMem (s : State) (m : Memory) : (s.setMem m).bit5 = s.bit5 := rfl
@[simp] theorem State.bit5_setRun (s : State) (r : RunState) : (s.setRun r).bit5 = s.bit5 := rfl
@[simp] theorem State.bit5_setP (s : State) (v : Byte) : (s.setP v).bit5 = v.getLsbD 5 := rfl
@[simp] theorem State.flag_setP (s : State) (v : Byte) (f : PFlag) : (s.setP v).flag f = v.getLsbD f.bit := rfl

end Sys2Proof.Machine
end

