-- ==== Sys2Proof/Laws/Memory.lean ====
section
/-! SUPPORT. The laws of memory: a read after a write, and that every operation keeps the canonical form. -/

namespace Sys2Proof.Machine

theorem readCell_eraseCell (m : List Host.Cell) (k j : Nat) :
    readCell (eraseCell m k) j = if j = k then Config.unlistedByte else readCell m j := by
  induction m with
  | nil => simp [eraseCell, readCell]
  | cons c m ih => grind [eraseCell, readCell]

theorem readCell_insertCell (m : List Host.Cell) (k j : Nat) (v : Byte) (h : ∀ c ∈ m, c.1 ≠ k) :
    readCell (insertCell m k v) j = if j = k then v else readCell m j := by
  induction m with
  | nil => grind [insertCell, readCell]
  | cons c m ih => grind [insertCell, readCell]

theorem key_ne_of_mem_eraseCell (m : List Host.Cell) (k : Nat) : ∀ c ∈ eraseCell m k, c.1 ≠ k := by
  induction m with
  | nil => simp [eraseCell]
  | cons c m ih => grind [eraseCell]

theorem mem_of_mem_eraseCell {m : List Host.Cell} {k : Nat} {d : Host.Cell} (h : d ∈ eraseCell m k) : d ∈ m := by
  induction m with
  | nil => simp [eraseCell] at h
  | cons c m ih => grind [eraseCell]

theorem mem_insertCell {m : List Host.Cell} {k : Nat} {v : Byte} {d : Host.Cell} :
    d ∈ insertCell m k v ↔ d = (k, v) ∨ d ∈ m := by
  induction m with
  | nil => simp [insertCell]
  | cons c m ih => grind [insertCell]

/-- A read after a write: the byte written at that address, the old byte elsewhere (20_memory.md R51). -/
theorem Memory.read_write (m : Memory) (a b : Word) (v : Byte) :
    (m.write a v).read b = if b = a then v else m.read b := by
  have hab : b.toNat = a.toNat ↔ b = a := BitVec.toNat_inj
  unfold Memory.write Memory.read
  split
  · next hv => simp [readCell_eraseCell, hab, hv]
  · simp [readCell_insertCell _ _ _ _ (key_ne_of_mem_eraseCell m a.toNat), readCell_eraseCell, hab]
    split <;> rfl

@[simp] theorem Memory.read_write_same (m : Memory) (a : Word) (v : Byte) : (m.write a v).read a = v := by
  simp [Memory.read_write]

theorem Memory.read_write_ne (m : Memory) {a b : Word} (v : Byte) (h : b ≠ a) : (m.write a v).read b = m.read b := by
  simp [Memory.read_write, h]

@[simp] theorem Memory.read_nil (a : Word) : Memory.read [] a = Config.unlistedByte := rfl

/-- The canonical form of a nonempty memory. -/
theorem Memory.wf_cons (c : Host.Cell) (m : Memory) :
    Memory.wf (c :: m) = true ↔
      c.1 < Config.memorySize ∧ c.2 ≠ Config.unlistedByte ∧ (∀ d ∈ m, c.1 < d.1) ∧ Memory.wf m = true := by
  simp [Memory.wf, and_assoc]

theorem wf_eraseCell {m : Memory} (k : Nat) (h : m.wf = true) : Memory.wf (eraseCell m k) = true := by
  induction m with
  | nil => simpa [eraseCell] using h
  | cons c m ih =>
    rw [Memory.wf_cons] at h
    obtain ⟨h1, h2, h3, h4⟩ := h
    unfold eraseCell
    split
    · exact ih h4
    · exact (Memory.wf_cons _ _).2 ⟨h1, h2, fun d hd => h3 d (mem_of_mem_eraseCell hd), ih h4⟩

theorem wf_insertCell {m : Memory} {k : Nat} {v : Byte} (h : m.wf = true) (hk : ∀ c ∈ m, c.1 ≠ k)
    (hs : k < Config.memorySize) (hv : v ≠ Config.unlistedByte) : Memory.wf (insertCell m k v) = true := by
  induction m with
  | nil => exact (Memory.wf_cons _ _).2 ⟨hs, hv, by simp, rfl⟩
  | cons c m ih =>
    have hc := (Memory.wf_cons _ _).1 h
    obtain ⟨h1, h2, h3, h4⟩ := hc
    unfold insertCell
    split
    · next hlt =>
      refine (Memory.wf_cons _ _).2 ⟨hs, hv, fun d hd => ?_, h⟩
      rcases List.mem_cons.1 hd with rfl | hd
      · exact hlt
      · exact lt_trans hlt (h3 d hd)
    · next hlt =>
      refine (Memory.wf_cons _ _).2 ⟨h1, h2, fun d hd => ?_, ih h4 fun d hd => hk d (List.mem_cons_of_mem _ hd)⟩
      rcases mem_insertCell.1 hd with rfl | hd
      · have := hk c List.mem_cons_self
        simp only
        omega
      · exact h3 d hd

/-- A write keeps the canonical form. -/
theorem Memory.wf_write {m : Memory} (a : Word) (v : Byte) (h : m.wf = true) : (m.write a v).wf = true := by
  unfold Memory.write
  split
  · exact wf_eraseCell _ h
  · next hv => exact wf_insertCell (wf_eraseCell _ h) (key_ne_of_mem_eraseCell m _) a.isLt hv

theorem Memory.wf_writeWord {m : Memory} (a : Word) (v : Word) (h : m.wf = true) : (m.writeWord a v).wf = true :=
  Memory.wf_write _ _ (Memory.wf_write _ _ h)

theorem Memory.wf_map {m : Memory} (base : Word) (source : List Byte) (h : m.wf = true) :
    (m.map base source).wf = true := by
  induction source generalizing m base with
  | nil => exact h
  | cons v source ih => exact ih (base + 1#16) (Memory.wf_write base v h)

theorem wf_reset : State.reset.mem.wf = true := rfl

/-! ### Bytes of words -/

@[simp] theorem lo_wordOf (h l : Byte) : lo (wordOf h l) = l := by
  apply BitVec.eq_of_toNat_eq
  simp [lo, wordOf]
  omega

@[simp] theorem hi_wordOf (h l : Byte) : hi (wordOf h l) = h := by
  apply BitVec.eq_of_toNat_eq
  simp [hi, wordOf]
  omega

@[simp] theorem wordOf_hi_lo (w : Word) : wordOf (hi w) (lo w) = w := by
  apply BitVec.eq_of_toNat_eq
  simp [lo, hi, wordOf]
  omega

theorem toNat_wordOf (h l : Byte) : (wordOf h l).toNat = h.toNat * 256 + l.toNat := by
  simp [wordOf]
  omega

@[simp] theorem toNat_zext16 (b : Byte) : (zext16 b).toNat = b.toNat := by
  simp [zext16]
  omega

theorem zext16_inj {b c : Byte} : zext16 b = zext16 c ↔ b = c := by
  constructor
  · intro h
    apply BitVec.eq_of_toNat_eq
    simpa using congrArg BitVec.toNat h
  · rintro rfl
    rfl

/-- The stack byte of an SP value lies in page 1 (20_memory.md R58). -/
theorem toNat_stackAddress (sp : Byte) : (stackAddress sp).toNat = 256 + sp.toNat := by
  simp [stackAddress, Config.stackPage]
  omega

theorem stackAddress_inj {a b : Byte} : stackAddress a = stackAddress b ↔ a = b := by
  constructor
  · intro h
    apply BitVec.eq_of_toNat_eq
    have := congrArg BitVec.toNat h
    simp only [toNat_stackAddress] at this
    omega
  · rintro rfl
    rfl

end Sys2Proof.Machine
end

