-- ==== Sys2Proof/Laws/Ops.lean ====
section
/-! SUPPORT. What each shared operation does to each field: the stack engine, the PC advance, fatal errors, interrupt entry and
return, write-back. -/

namespace Sys2Proof.Machine

@[simp] theorem State.pc_advance (s : State) (n : Nat) : (s.advance n).pc = s.pc + BitVec.ofNat 16 n := rfl
@[simp] theorem State.sp_advance (s : State) (n : Nat) : (s.advance n).sp = s.sp := rfl
@[simp] theorem State.a_advance (s : State) (n : Nat) : (s.advance n).a = s.a := rfl
@[simp] theorem State.x_advance (s : State) (n : Nat) : (s.advance n).x = s.x := rfl
@[simp] theorem State.y_advance (s : State) (n : Nat) : (s.advance n).y = s.y := rfl
@[simp] theorem State.p_advance (s : State) (n : Nat) : (s.advance n).p = s.p := rfl
@[simp] theorem State.mem_advance (s : State) (n : Nat) : (s.advance n).mem = s.mem := rfl
@[simp] theorem State.run_advance (s : State) (n : Nat) : (s.advance n).run = s.run := rfl
@[simp] theorem State.flag_advance (s : State) (n : Nat) (f : PFlag) : (s.advance n).flag f = s.flag f := rfl
@[simp] theorem State.bit5_advance (s : State) (n : Nat) : (s.advance n).bit5 = s.bit5 := rfl

@[simp] theorem State.pc_push8 (s : State) (v : Byte) : (s.push8 v).pc = s.pc := rfl
@[simp] theorem State.sp_push8 (s : State) (v : Byte) : (s.push8 v).sp = s.sp - 1#8 := rfl
@[simp] theorem State.a_push8 (s : State) (v : Byte) : (s.push8 v).a = s.a := rfl
@[simp] theorem State.x_push8 (s : State) (v : Byte) : (s.push8 v).x = s.x := rfl
@[simp] theorem State.y_push8 (s : State) (v : Byte) : (s.push8 v).y = s.y := rfl
@[simp] theorem State.p_push8 (s : State) (v : Byte) : (s.push8 v).p = s.p := rfl
@[simp] theorem State.mem_push8 (s : State) (v : Byte) : (s.push8 v).mem = s.mem.write (stackAddress s.sp) v := rfl
@[simp] theorem State.run_push8 (s : State) (v : Byte) : (s.push8 v).run = s.run := rfl
@[simp] theorem State.flag_push8 (s : State) (v : Byte) (f : PFlag) : (s.push8 v).flag f = s.flag f := rfl
@[simp] theorem State.bit5_push8 (s : State) (v : Byte) : (s.push8 v).bit5 = s.bit5 := rfl

@[simp] theorem State.pc_drop8 (s : State) : (s.drop8).pc = s.pc := rfl
@[simp] theorem State.sp_drop8 (s : State) : (s.drop8).sp = s.sp + 1#8 := rfl
@[simp] theorem State.a_drop8 (s : State) : (s.drop8).a = s.a := rfl
@[simp] theorem State.x_drop8 (s : State) : (s.drop8).x = s.x := rfl
@[simp] theorem State.y_drop8 (s : State) : (s.drop8).y = s.y := rfl
@[simp] theorem State.p_drop8 (s : State) : (s.drop8).p = s.p := rfl
@[simp] theorem State.mem_drop8 (s : State) : (s.drop8).mem = s.mem := rfl
@[simp] theorem State.run_drop8 (s : State) : (s.drop8).run = s.run := rfl
@[simp] theorem State.flag_drop8 (s : State) (f : PFlag) : (s.drop8).flag f = s.flag f := rfl
@[simp] theorem State.bit5_drop8 (s : State) : (s.drop8).bit5 = s.bit5 := rfl

@[simp] theorem State.pc_raiseFatal (s : State) (k : FatalCause) (op : Byte) : (s.raiseFatal k op).pc = s.pc := rfl
@[simp] theorem State.sp_raiseFatal (s : State) (k : FatalCause) (op : Byte) : (s.raiseFatal k op).sp = s.sp := rfl
@[simp] theorem State.a_raiseFatal (s : State) (k : FatalCause) (op : Byte) : (s.raiseFatal k op).a = s.a := rfl
@[simp] theorem State.x_raiseFatal (s : State) (k : FatalCause) (op : Byte) : (s.raiseFatal k op).x = s.x := rfl
@[simp] theorem State.y_raiseFatal (s : State) (k : FatalCause) (op : Byte) : (s.raiseFatal k op).y = s.y := rfl
@[simp] theorem State.p_raiseFatal (s : State) (k : FatalCause) (op : Byte) : (s.raiseFatal k op).p = s.p := rfl
@[simp] theorem State.mem_raiseFatal (s : State) (k : FatalCause) (op : Byte) : (s.raiseFatal k op).mem = s.mem := rfl
@[simp] theorem State.run_raiseFatal (s : State) (k : FatalCause) (op : Byte) : (s.raiseFatal k op).run = .fatal ⟨k, op, s.pc⟩ := rfl
@[simp] theorem State.flag_raiseFatal (s : State) (k : FatalCause) (op : Byte) (f : PFlag) : (s.raiseFatal k op).flag f = s.flag f := rfl
@[simp] theorem State.bit5_raiseFatal (s : State) (k : FatalCause) (op : Byte) : (s.raiseFatal k op).bit5 = s.bit5 := rfl

/-! ### Two-byte pushes and pops -/

theorem two_steps_down (v : Byte) : v - 1#8 - 1#8 = v - 2#8 := by bv_omega

theorem two_steps_up (v : Byte) : v + 1#8 + 1#8 = v + 2#8 := by bv_omega

@[simp] theorem State.pc_push16 (s : State) (w : Word) : (s.push16 w).pc = s.pc := rfl
@[simp] theorem State.sp_push16 (s : State) (w : Word) : (s.push16 w).sp = s.sp - 2#8 := two_steps_down s.sp
@[simp] theorem State.a_push16 (s : State) (w : Word) : (s.push16 w).a = s.a := rfl
@[simp] theorem State.x_push16 (s : State) (w : Word) : (s.push16 w).x = s.x := rfl
@[simp] theorem State.y_push16 (s : State) (w : Word) : (s.push16 w).y = s.y := rfl
@[simp] theorem State.p_push16 (s : State) (w : Word) : (s.push16 w).p = s.p := rfl
@[simp] theorem State.mem_push16 (s : State) (w : Word) : (s.push16 w).mem = (s.mem.write (stackAddress s.sp) (hi w)).write (stackAddress (s.sp - 1#8)) (lo w) := rfl
@[simp] theorem State.run_push16 (s : State) (w : Word) : (s.push16 w).run = s.run := rfl
@[simp] theorem State.flag_push16 (s : State) (w : Word) (f : PFlag) : (s.push16 w).flag f = s.flag f := rfl
@[simp] theorem State.bit5_push16 (s : State) (w : Word) : (s.push16 w).bit5 = s.bit5 := rfl

@[simp] theorem State.pc_drop16 (s : State) : (s.drop16).pc = s.pc := rfl
@[simp] theorem State.sp_drop16 (s : State) : (s.drop16).sp = s.sp + 2#8 := two_steps_up s.sp
@[simp] theorem State.a_drop16 (s : State) : (s.drop16).a = s.a := rfl
@[simp] theorem State.x_drop16 (s : State) : (s.drop16).x = s.x := rfl
@[simp] theorem State.y_drop16 (s : State) : (s.drop16).y = s.y := rfl
@[simp] theorem State.p_drop16 (s : State) : (s.drop16).p = s.p := rfl
@[simp] theorem State.mem_drop16 (s : State) : (s.drop16).mem = s.mem := rfl
@[simp] theorem State.run_drop16 (s : State) : (s.drop16).run = s.run := rfl
@[simp] theorem State.flag_drop16 (s : State) (f : PFlag) : (s.drop16).flag f = s.flag f := rfl
@[simp] theorem State.bit5_drop16 (s : State) : (s.drop16).bit5 = s.bit5 := rfl

/-- The word `Pop16()` returns: the bytes one and two above SP (20_memory.md R63). -/
theorem State.top16_eq (s : State) :
    s.top16 = wordOf (s.mem.read (stackAddress (s.sp + 2#8))) (s.mem.read (stackAddress (s.sp + 1#8))) := by
  simp [State.top16, State.top8, two_steps_up]

/-! ### Interrupt entry and return -/

/-- The memory an entry leaves: return address high, low, then P as stored (60_exceptions.md R245). -/
@[simp] theorem State.mem_enter (s : State) (ret : Word) (b : Bool) (vec : Word) :
    (s.enter ret b vec).mem =
      ((s.mem.write (stackAddress s.sp) (hi ret)).write (stackAddress (s.sp - 1#8)) (lo ret)).write
        (stackAddress (s.sp - 2#8)) s.p := by
  simp [State.enter]

theorem State.pc_enter (s : State) (ret : Word) (b : Bool) (vec : Word) :
    (s.enter ret b vec).pc = (s.enter ret b vec).mem.readWord vec := rfl

@[simp] theorem State.sp_enter (s : State) (ret : Word) (b : Bool) (vec : Word) : (s.enter ret b vec).sp = s.sp - 3#8 := by
  simp only [State.enter, State.sp_setPc, State.sp_setFlag, State.sp_push8, State.sp_push16]
  bv_omega

@[simp] theorem State.a_enter (s : State) (ret : Word) (b : Bool) (vec : Word) : (s.enter ret b vec).a = s.a := rfl
@[simp] theorem State.x_enter (s : State) (ret : Word) (b : Bool) (vec : Word) : (s.enter ret b vec).x = s.x := rfl
@[simp] theorem State.y_enter (s : State) (ret : Word) (b : Bool) (vec : Word) : (s.enter ret b vec).y = s.y := rfl
@[simp] theorem State.run_enter (s : State) (ret : Word) (b : Bool) (vec : Word) : (s.enter ret b vec).run = s.run := rfl

/-- An entry writes B and I and no other flag. -/
@[simp] theorem State.flag_enter (s : State) (ret : Word) (b : Bool) (vec : Word) (f : PFlag) :
    (s.enter ret b vec).flag f = if f = .i then true else if f = .b then b else s.flag f := by
  simp [State.enter]

@[simp] theorem State.bit5_enter (s : State) (ret : Word) (b : Bool) (vec : Word) :
    (s.enter ret b vec).bit5 = s.bit5 := by
  simp [State.enter]

/-- RTI takes P from the byte above SP and PC from the two bytes above that (45_control.md R223). -/
@[simp] theorem State.p_leave (s : State) : s.leave.p = s.mem.read (stackAddress (s.sp + 1#8)) := rfl

@[simp] theorem State.pc_leave (s : State) :
    s.leave.pc = wordOf (s.mem.read (stackAddress (s.sp + 3#8))) (s.mem.read (stackAddress (s.sp + 2#8))) := by
  have h : s.sp + 1#8 + 2#8 = s.sp + 3#8 := by bv_omega
  simp [State.leave, State.top16_eq, two_steps_up, h]

@[simp] theorem State.sp_leave (s : State) : s.leave.sp = s.sp + 3#8 := by
  simp only [State.leave, State.sp_setPc, State.sp_setP, State.sp_drop16, State.sp_drop8]
  bv_omega

@[simp] theorem State.a_leave (s : State) : s.leave.a = s.a := rfl
@[simp] theorem State.x_leave (s : State) : s.leave.x = s.x := rfl
@[simp] theorem State.y_leave (s : State) : s.leave.y = s.y := rfl
@[simp] theorem State.mem_leave (s : State) : s.leave.mem = s.mem := rfl
@[simp] theorem State.run_leave (s : State) : s.leave.run = s.run := rfl

@[simp] theorem State.flag_leave (s : State) (f : PFlag) :
    s.leave.flag f = (s.mem.read (stackAddress (s.sp + 1#8))).getLsbD f.bit := rfl
@[simp] theorem State.bit5_leave (s : State) : s.leave.bit5 = (s.mem.read (stackAddress (s.sp + 1#8))).getLsbD 5 := rfl

/-! ### Write-back (40_execution.md R110) -/

@[simp] theorem State.pc_writeBack (s : State) (g : Target) (v : Byte) : (s.writeBack g v).pc = s.pc := by cases g <;> rfl
@[simp] theorem State.sp_writeBack (s : State) (g : Target) (v : Byte) : (s.writeBack g v).sp = s.sp := by cases g <;> rfl
@[simp] theorem State.x_writeBack (s : State) (g : Target) (v : Byte) : (s.writeBack g v).x = s.x := by cases g <;> rfl
@[simp] theorem State.y_writeBack (s : State) (g : Target) (v : Byte) : (s.writeBack g v).y = s.y := by cases g <;> rfl
@[simp] theorem State.p_writeBack (s : State) (g : Target) (v : Byte) : (s.writeBack g v).p = s.p := by cases g <;> rfl
@[simp] theorem State.run_writeBack (s : State) (g : Target) (v : Byte) : (s.writeBack g v).run = s.run := by cases g <;> rfl
@[simp] theorem State.flag_writeBack (s : State) (g : Target) (v : Byte) (f : PFlag) : (s.writeBack g v).flag f = s.flag f := by
  cases g <;> rfl

@[simp] theorem State.bit5_writeBack (s : State) (g : Target) (v : Byte) : (s.writeBack g v).bit5 = s.bit5 := by
  cases g <;> rfl

@[simp] theorem State.writeBack_nothing (s : State) (v : Byte) : s.writeBack .nothing v = s := rfl
@[simp] theorem State.writeBack_accumulator (s : State) (v : Byte) : s.writeBack .accumulator v = s.setA v := rfl
@[simp] theorem State.writeBack_address (s : State) (a : Word) (v : Byte) :
    s.writeBack (.address a) v = s.setMem (s.mem.write a v) := rfl

/-! ### The canonical form -/

theorem State.wf_push8 {s : State} (v : Byte) (h : s.mem.wf = true) : (s.push8 v).mem.wf = true := Memory.wf_write _ _ h

theorem State.wf_push16 {s : State} (w : Word) (h : s.mem.wf = true) : (s.push16 w).mem.wf = true :=
  State.wf_push8 _ (State.wf_push8 _ h)

theorem State.wf_enter {s : State} (ret : Word) (b : Bool) (vec : Word) (h : s.mem.wf = true) :
    (s.enter ret b vec).mem.wf = true :=
  State.wf_push8 _ (State.wf_push16 _ h)

theorem State.wf_writeBack {s : State} (g : Target) (v : Byte) (h : s.mem.wf = true) : (s.writeBack g v).mem.wf = true := by
  cases g
  · exact h
  · exact h
  · exact Memory.wf_write _ _ h

end Sys2Proof.Machine
end

