-- ==== Sys2Proof/Laws/Exec.lean ====
section
/-! SUPPORT. What exec can do, said once: each instruction is the rule of its mnemonic applied to its operand, so that a proof
about every instruction splits on 56 mnemonics and not on 151 constructors; and the lemmas of the statements' own terms. -/

namespace Sys2Proof.Machine

/-- The first byte of an instruction's encoding. -/
def opcodeByte (i : Instr) : Byte := (encode i).head?.getD 0#8

/-- The address of an operand's EA; 0 where it has none. -/
def targetAddress (o : Operand) (s : State) : Word :=
  match target o s with
  | .address a => a
  | _ => 0#16

/-- The rule of each mnemonic over the shared operations, for an operand and the opcode byte Fatal records. -/
def rule (m : Mnemonic) (op : Byte) (o : Operand) (s : State) : Out :=
  match m with
  | .lda => load .a o s
  | .ldx => load .x o s
  | .ldy => load .y o s
  | .sta => store .a o s
  | .stx => store .x o s
  | .sty => store .y o s
  | .tax => transfer .a .x s
  | .tay => transfer .a .y s
  | .txa => transfer .x .a s
  | .tya => transfer .y .a s
  | .tsx => transfer .sp .x s
  | .txs => .next ((s.setSp s.x).advance 1)
  | .adc => addToA addWithCarry op o s
  | .sbc => addToA subWithBorrow op o s
  | .and => logic (· &&& ·) o s
  | .ora => logic (· ||| ·) o s
  | .eor => logic (· ^^^ ·) o s
  | .cmp => compareReg .a o s
  | .cpx => compareReg .x o s
  | .cpy => compareReg .y o s
  | .bit => bitTest o s
  | .inc => stepByte (· + 1#8) o s
  | .dec => stepByte (· - 1#8) o s
  | .inx => stepReg .x (· + 1#8) s
  | .iny => stepReg .y (· + 1#8) s
  | .dex => stepReg .x (· - 1#8) s
  | .dey => stepReg .y (· - 1#8) s
  | .asl => shift shiftLeft o s
  | .lsr => shift shiftRight o s
  | .rol => shift (rotateLeft · (s.flag .c)) o s
  | .ror => shift (rotateRight · (s.flag .c)) o s
  | .clc => writeFlag .c false s
  | .sec => writeFlag .c true s
  | .cli => writeFlag .i false s
  | .sei => writeFlag .i true s
  | .cld => writeFlag .d false s
  | .sed => writeFlag .d true s
  | .clv => writeFlag .v false s
  | .nop => .next (s.advance 1)
  | .pha => .next ((s.push8 s.a).advance 1)
  | .php => .next ((s.push8 s.p).advance 1)
  | .pla => .next (((s.drop8.setA s.top8).setNZ s.top8).advance 1)
  | .plp => .next ((s.drop8.setP s.top8).advance 1)
  | .jmp => .next (s.setPc (targetAddress o s))
  | .jsr => .next ((s.push16 (s.pc + 2#16)).setPc (targetAddress o s))
  | .rts => .next (s.drop16.setPc (s.top16 + 1#16))
  | .bcc => branch (!s.flag .c) (operandValue o s) s
  | .bcs => branch (s.flag .c) (operandValue o s) s
  | .beq => branch (s.flag .z) (operandValue o s) s
  | .bmi => branch (s.flag .n) (operandValue o s) s
  | .bne => branch (!s.flag .z) (operandValue o s) s
  | .bpl => branch (!s.flag .n) (operandValue o s) s
  | .bvc => branch (!s.flag .v) (operandValue o s) s
  | .bvs => branch (s.flag .v) (operandValue o s) s
  | .brk => .next (s.enter (s.pc + 2#16) true Config.irqVector)
  | .rti => .next s.leave

/-- Every instruction is the rule of its mnemonic. -/
theorem exec_eq_rule (i : Instr) (s : State) : exec i s = rule i.mnemonic (opcodeByte i) (instrOperand i) s := by
  cases i <;> rfl

/-- Every instruction's form is defined (30_encoding.md R84). -/
theorem instr_wf (i : Instr) : i.wf = true := by cases i <;> rfl

/-- An instruction's operand has the instruction's mode. -/
theorem operandMode_instrOperand (i : Instr) : operandMode (instrOperand i) = i.mode := by cases i <;> rfl

/-- An instruction is as long as its mode says (30_encoding.md R81). -/
theorem length_encode (i : Instr) : (encode i).length = operandLength (instrOperand i) := by cases i <;> rfl

/-- The accumulator is the write-back target of the accumulator mode only (40_execution.md R109). -/
theorem target_eq_accumulator {o : Operand} {s : State} : target o s = .accumulator ↔ o = .acc := by
  cases o <;> simp [target]

/-- Z and N of a byte, from the two flags as `SetNZ` writes them. -/
theorem nz_of_flags {v : Byte} {t : State} (hz : t.flag .z = (v == 0#8)) (hn : t.flag .n = v.getLsbD 7) : NZ v t := by
  refine ⟨?_, hn⟩
  rw [hz]
  by_cases h : v = 0#8 <;> simp [h]

/-- Consecutive stack bytes are distinct, the page wrapping or not. -/
theorem stackAddress_ne_pred (sp : Byte) : stackAddress sp ≠ stackAddress (sp - 1#8) := by
  rw [Ne, stackAddress_inj]
  bv_omega

theorem stackAddress_ne_pred_two (sp : Byte) : stackAddress sp ≠ stackAddress (sp - 2#8) := by
  rw [Ne, stackAddress_inj]
  bv_omega

theorem stackAddress_pred_ne_pred_two (sp : Byte) : stackAddress (sp - 1#8) ≠ stackAddress (sp - 2#8) := by
  rw [Ne, stackAddress_inj]
  bv_omega

/-- The stack page holds no vector byte, so an entry reads the vector as it was before the pushes. -/
theorem stackAddress_ne_of_high {b : Word} (sp : Byte) (h : 512 ≤ b.toNat) : b ≠ stackAddress sp := by
  rintro rfl
  rw [toNat_stackAddress] at h
  omega

end Sys2Proof.Machine
end

