-- ==== Sys2Proof/Laws/PerInstr.lean ====
section
/-! SUPPORT. A fact about every instruction as syntax, one lemma per constructor: its form is one of R84's and its encoding
is an opcode byte that selects this form followed by as many operand bytes as the mode has (30_encoding.md R81, R82). -/

namespace Sys2Proof.Laws.EncodingShape

/-- The shape of an instruction's encoding. -/
def Statement (i : Instr) : Prop :=
  i.wf = true ∧ (encode i).length = pcOffset i.mode ∧ (encode i).head?.bind opcodeForm = some i.form

theorem ldaImm (n : Byte) : Statement (.ldaImm n) := ⟨rfl, rfl, rfl⟩
theorem ldaZp (n : Byte) : Statement (.ldaZp n) := ⟨rfl, rfl, rfl⟩
theorem ldaZpx (n : Byte) : Statement (.ldaZpx n) := ⟨rfl, rfl, rfl⟩
theorem ldaAbs (w : Word) : Statement (.ldaAbs w) := ⟨rfl, rfl, rfl⟩
theorem ldaAbx (w : Word) : Statement (.ldaAbx w) := ⟨rfl, rfl, rfl⟩
theorem ldaAby (w : Word) : Statement (.ldaAby w) := ⟨rfl, rfl, rfl⟩
theorem ldaIzx (n : Byte) : Statement (.ldaIzx n) := ⟨rfl, rfl, rfl⟩
theorem ldaIzy (n : Byte) : Statement (.ldaIzy n) := ⟨rfl, rfl, rfl⟩
theorem ldxImm (n : Byte) : Statement (.ldxImm n) := ⟨rfl, rfl, rfl⟩
theorem ldxZp (n : Byte) : Statement (.ldxZp n) := ⟨rfl, rfl, rfl⟩
theorem ldxZpy (n : Byte) : Statement (.ldxZpy n) := ⟨rfl, rfl, rfl⟩
theorem ldxAbs (w : Word) : Statement (.ldxAbs w) := ⟨rfl, rfl, rfl⟩
theorem ldxAby (w : Word) : Statement (.ldxAby w) := ⟨rfl, rfl, rfl⟩
theorem ldyImm (n : Byte) : Statement (.ldyImm n) := ⟨rfl, rfl, rfl⟩
theorem ldyZp (n : Byte) : Statement (.ldyZp n) := ⟨rfl, rfl, rfl⟩
theorem ldyZpx (n : Byte) : Statement (.ldyZpx n) := ⟨rfl, rfl, rfl⟩
theorem ldyAbs (w : Word) : Statement (.ldyAbs w) := ⟨rfl, rfl, rfl⟩
theorem ldyAbx (w : Word) : Statement (.ldyAbx w) := ⟨rfl, rfl, rfl⟩
theorem staZp (n : Byte) : Statement (.staZp n) := ⟨rfl, rfl, rfl⟩
theorem staZpx (n : Byte) : Statement (.staZpx n) := ⟨rfl, rfl, rfl⟩
theorem staAbs (w : Word) : Statement (.staAbs w) := ⟨rfl, rfl, rfl⟩
theorem staAbx (w : Word) : Statement (.staAbx w) := ⟨rfl, rfl, rfl⟩
theorem staAby (w : Word) : Statement (.staAby w) := ⟨rfl, rfl, rfl⟩
theorem staIzx (n : Byte) : Statement (.staIzx n) := ⟨rfl, rfl, rfl⟩
theorem staIzy (n : Byte) : Statement (.staIzy n) := ⟨rfl, rfl, rfl⟩
theorem stxZp (n : Byte) : Statement (.stxZp n) := ⟨rfl, rfl, rfl⟩
theorem stxZpy (n : Byte) : Statement (.stxZpy n) := ⟨rfl, rfl, rfl⟩
theorem stxAbs (w : Word) : Statement (.stxAbs w) := ⟨rfl, rfl, rfl⟩
theorem styZp (n : Byte) : Statement (.styZp n) := ⟨rfl, rfl, rfl⟩
theorem styZpx (n : Byte) : Statement (.styZpx n) := ⟨rfl, rfl, rfl⟩
theorem styAbs (w : Word) : Statement (.styAbs w) := ⟨rfl, rfl, rfl⟩
theorem tax : Statement (.tax) := ⟨rfl, rfl, rfl⟩
theorem tay : Statement (.tay) := ⟨rfl, rfl, rfl⟩
theorem txa : Statement (.txa) := ⟨rfl, rfl, rfl⟩
theorem tya : Statement (.tya) := ⟨rfl, rfl, rfl⟩
theorem tsx : Statement (.tsx) := ⟨rfl, rfl, rfl⟩
theorem txs : Statement (.txs) := ⟨rfl, rfl, rfl⟩
theorem adcImm (n : Byte) : Statement (.adcImm n) := ⟨rfl, rfl, rfl⟩
theorem adcZp (n : Byte) : Statement (.adcZp n) := ⟨rfl, rfl, rfl⟩
theorem adcZpx (n : Byte) : Statement (.adcZpx n) := ⟨rfl, rfl, rfl⟩
theorem adcAbs (w : Word) : Statement (.adcAbs w) := ⟨rfl, rfl, rfl⟩
theorem adcAbx (w : Word) : Statement (.adcAbx w) := ⟨rfl, rfl, rfl⟩
theorem adcAby (w : Word) : Statement (.adcAby w) := ⟨rfl, rfl, rfl⟩
theorem adcIzx (n : Byte) : Statement (.adcIzx n) := ⟨rfl, rfl, rfl⟩
theorem adcIzy (n : Byte) : Statement (.adcIzy n) := ⟨rfl, rfl, rfl⟩
theorem sbcImm (n : Byte) : Statement (.sbcImm n) := ⟨rfl, rfl, rfl⟩
theorem sbcZp (n : Byte) : Statement (.sbcZp n) := ⟨rfl, rfl, rfl⟩
theorem sbcZpx (n : Byte) : Statement (.sbcZpx n) := ⟨rfl, rfl, rfl⟩
theorem sbcAbs (w : Word) : Statement (.sbcAbs w) := ⟨rfl, rfl, rfl⟩
theorem sbcAbx (w : Word) : Statement (.sbcAbx w) := ⟨rfl, rfl, rfl⟩
theorem sbcAby (w : Word) : Statement (.sbcAby w) := ⟨rfl, rfl, rfl⟩
theorem sbcIzx (n : Byte) : Statement (.sbcIzx n) := ⟨rfl, rfl, rfl⟩
theorem sbcIzy (n : Byte) : Statement (.sbcIzy n) := ⟨rfl, rfl, rfl⟩
theorem andImm (n : Byte) : Statement (.andImm n) := ⟨rfl, rfl, rfl⟩
theorem andZp (n : Byte) : Statement (.andZp n) := ⟨rfl, rfl, rfl⟩
theorem andZpx (n : Byte) : Statement (.andZpx n) := ⟨rfl, rfl, rfl⟩
theorem andAbs (w : Word) : Statement (.andAbs w) := ⟨rfl, rfl, rfl⟩
theorem andAbx (w : Word) : Statement (.andAbx w) := ⟨rfl, rfl, rfl⟩
theorem andAby (w : Word) : Statement (.andAby w) := ⟨rfl, rfl, rfl⟩
theorem andIzx (n : Byte) : Statement (.andIzx n) := ⟨rfl, rfl, rfl⟩
theorem andIzy (n : Byte) : Statement (.andIzy n) := ⟨rfl, rfl, rfl⟩
theorem oraImm (n : Byte) : Statement (.oraImm n) := ⟨rfl, rfl, rfl⟩
theorem oraZp (n : Byte) : Statement (.oraZp n) := ⟨rfl, rfl, rfl⟩
theorem oraZpx (n : Byte) : Statement (.oraZpx n) := ⟨rfl, rfl, rfl⟩
theorem oraAbs (w : Word) : Statement (.oraAbs w) := ⟨rfl, rfl, rfl⟩
theorem oraAbx (w : Word) : Statement (.oraAbx w) := ⟨rfl, rfl, rfl⟩
theorem oraAby (w : Word) : Statement (.oraAby w) := ⟨rfl, rfl, rfl⟩
theorem oraIzx (n : Byte) : Statement (.oraIzx n) := ⟨rfl, rfl, rfl⟩
theorem oraIzy (n : Byte) : Statement (.oraIzy n) := ⟨rfl, rfl, rfl⟩
theorem eorImm (n : Byte) : Statement (.eorImm n) := ⟨rfl, rfl, rfl⟩
theorem eorZp (n : Byte) : Statement (.eorZp n) := ⟨rfl, rfl, rfl⟩
theorem eorZpx (n : Byte) : Statement (.eorZpx n) := ⟨rfl, rfl, rfl⟩
theorem eorAbs (w : Word) : Statement (.eorAbs w) := ⟨rfl, rfl, rfl⟩
theorem eorAbx (w : Word) : Statement (.eorAbx w) := ⟨rfl, rfl, rfl⟩
theorem eorAby (w : Word) : Statement (.eorAby w) := ⟨rfl, rfl, rfl⟩
theorem eorIzx (n : Byte) : Statement (.eorIzx n) := ⟨rfl, rfl, rfl⟩
theorem eorIzy (n : Byte) : Statement (.eorIzy n) := ⟨rfl, rfl, rfl⟩
theorem cmpImm (n : Byte) : Statement (.cmpImm n) := ⟨rfl, rfl, rfl⟩
theorem cmpZp (n : Byte) : Statement (.cmpZp n) := ⟨rfl, rfl, rfl⟩
theorem cmpZpx (n : Byte) : Statement (.cmpZpx n) := ⟨rfl, rfl, rfl⟩
theorem cmpAbs (w : Word) : Statement (.cmpAbs w) := ⟨rfl, rfl, rfl⟩
theorem cmpAbx (w : Word) : Statement (.cmpAbx w) := ⟨rfl, rfl, rfl⟩
theorem cmpAby (w : Word) : Statement (.cmpAby w) := ⟨rfl, rfl, rfl⟩
theorem cmpIzx (n : Byte) : Statement (.cmpIzx n) := ⟨rfl, rfl, rfl⟩
theorem cmpIzy (n : Byte) : Statement (.cmpIzy n) := ⟨rfl, rfl, rfl⟩
theorem cpxImm (n : Byte) : Statement (.cpxImm n) := ⟨rfl, rfl, rfl⟩
theorem cpxZp (n : Byte) : Statement (.cpxZp n) := ⟨rfl, rfl, rfl⟩
theorem cpxAbs (w : Word) : Statement (.cpxAbs w) := ⟨rfl, rfl, rfl⟩
theorem cpyImm (n : Byte) : Statement (.cpyImm n) := ⟨rfl, rfl, rfl⟩
theorem cpyZp (n : Byte) : Statement (.cpyZp n) := ⟨rfl, rfl, rfl⟩
theorem cpyAbs (w : Word) : Statement (.cpyAbs w) := ⟨rfl, rfl, rfl⟩
theorem bitZp (n : Byte) : Statement (.bitZp n) := ⟨rfl, rfl, rfl⟩
theorem bitAbs (w : Word) : Statement (.bitAbs w) := ⟨rfl, rfl, rfl⟩
theorem incZp (n : Byte) : Statement (.incZp n) := ⟨rfl, rfl, rfl⟩
theorem incZpx (n : Byte) : Statement (.incZpx n) := ⟨rfl, rfl, rfl⟩
theorem incAbs (w : Word) : Statement (.incAbs w) := ⟨rfl, rfl, rfl⟩
theorem incAbx (w : Word) : Statement (.incAbx w) := ⟨rfl, rfl, rfl⟩
theorem decZp (n : Byte) : Statement (.decZp n) := ⟨rfl, rfl, rfl⟩
theorem decZpx (n : Byte) : Statement (.decZpx n) := ⟨rfl, rfl, rfl⟩
theorem decAbs (w : Word) : Statement (.decAbs w) := ⟨rfl, rfl, rfl⟩
theorem decAbx (w : Word) : Statement (.decAbx w) := ⟨rfl, rfl, rfl⟩
theorem inx : Statement (.inx) := ⟨rfl, rfl, rfl⟩
theorem iny : Statement (.iny) := ⟨rfl, rfl, rfl⟩
theorem dex : Statement (.dex) := ⟨rfl, rfl, rfl⟩
theorem dey : Statement (.dey) := ⟨rfl, rfl, rfl⟩
theorem aslAcc : Statement (.aslAcc) := ⟨rfl, rfl, rfl⟩
theorem aslZp (n : Byte) : Statement (.aslZp n) := ⟨rfl, rfl, rfl⟩
theorem aslZpx (n : Byte) : Statement (.aslZpx n) := ⟨rfl, rfl, rfl⟩
theorem aslAbs (w : Word) : Statement (.aslAbs w) := ⟨rfl, rfl, rfl⟩
theorem aslAbx (w : Word) : Statement (.aslAbx w) := ⟨rfl, rfl, rfl⟩
theorem lsrAcc : Statement (.lsrAcc) := ⟨rfl, rfl, rfl⟩
theorem lsrZp (n : Byte) : Statement (.lsrZp n) := ⟨rfl, rfl, rfl⟩
theorem lsrZpx (n : Byte) : Statement (.lsrZpx n) := ⟨rfl, rfl, rfl⟩
theorem lsrAbs (w : Word) : Statement (.lsrAbs w) := ⟨rfl, rfl, rfl⟩
theorem lsrAbx (w : Word) : Statement (.lsrAbx w) := ⟨rfl, rfl, rfl⟩
theorem rolAcc : Statement (.rolAcc) := ⟨rfl, rfl, rfl⟩
theorem rolZp (n : Byte) : Statement (.rolZp n) := ⟨rfl, rfl, rfl⟩
theorem rolZpx (n : Byte) : Statement (.rolZpx n) := ⟨rfl, rfl, rfl⟩
theorem rolAbs (w : Word) : Statement (.rolAbs w) := ⟨rfl, rfl, rfl⟩
theorem rolAbx (w : Word) : Statement (.rolAbx w) := ⟨rfl, rfl, rfl⟩
theorem rorAcc : Statement (.rorAcc) := ⟨rfl, rfl, rfl⟩
theorem rorZp (n : Byte) : Statement (.rorZp n) := ⟨rfl, rfl, rfl⟩
theorem rorZpx (n : Byte) : Statement (.rorZpx n) := ⟨rfl, rfl, rfl⟩
theorem rorAbs (w : Word) : Statement (.rorAbs w) := ⟨rfl, rfl, rfl⟩
theorem rorAbx (w : Word) : Statement (.rorAbx w) := ⟨rfl, rfl, rfl⟩
theorem clc : Statement (.clc) := ⟨rfl, rfl, rfl⟩
theorem sec : Statement (.sec) := ⟨rfl, rfl, rfl⟩
theorem cli : Statement (.cli) := ⟨rfl, rfl, rfl⟩
theorem sei : Statement (.sei) := ⟨rfl, rfl, rfl⟩
theorem cld : Statement (.cld) := ⟨rfl, rfl, rfl⟩
theorem sed : Statement (.sed) := ⟨rfl, rfl, rfl⟩
theorem clv : Statement (.clv) := ⟨rfl, rfl, rfl⟩
theorem nop : Statement (.nop) := ⟨rfl, rfl, rfl⟩
theorem pha : Statement (.pha) := ⟨rfl, rfl, rfl⟩
theorem pla : Statement (.pla) := ⟨rfl, rfl, rfl⟩
theorem php : Statement (.php) := ⟨rfl, rfl, rfl⟩
theorem plp : Statement (.plp) := ⟨rfl, rfl, rfl⟩
theorem jmpAbs (w : Word) : Statement (.jmpAbs w) := ⟨rfl, rfl, rfl⟩
theorem jmpInd (w : Word) : Statement (.jmpInd w) := ⟨rfl, rfl, rfl⟩
theorem jsr (w : Word) : Statement (.jsr w) := ⟨rfl, rfl, rfl⟩
theorem rts : Statement (.rts) := ⟨rfl, rfl, rfl⟩
theorem bcc (n : Byte) : Statement (.bcc n) := ⟨rfl, rfl, rfl⟩
theorem bcs (n : Byte) : Statement (.bcs n) := ⟨rfl, rfl, rfl⟩
theorem beq (n : Byte) : Statement (.beq n) := ⟨rfl, rfl, rfl⟩
theorem bmi (n : Byte) : Statement (.bmi n) := ⟨rfl, rfl, rfl⟩
theorem bne (n : Byte) : Statement (.bne n) := ⟨rfl, rfl, rfl⟩
theorem bpl (n : Byte) : Statement (.bpl n) := ⟨rfl, rfl, rfl⟩
theorem bvc (n : Byte) : Statement (.bvc n) := ⟨rfl, rfl, rfl⟩
theorem bvs (n : Byte) : Statement (.bvs n) := ⟨rfl, rfl, rfl⟩
theorem brk : Statement (.brk) := ⟨rfl, rfl, rfl⟩
theorem rti : Statement (.rti) := ⟨rfl, rfl, rfl⟩

end Sys2Proof.Laws.EncodingShape
end

