-- ==== Sys2Proof/Tests/Slice0.lean ====
section
/-! SUPPORT. Tests. The expected results are those of spec/95_test_vectors.md (a test's last name part is the vector's id) or of
the rule named; then, for each statement with hypotheses, a witness that something meets them all. -/

namespace Sys2Proof.Machine

/-! ### The check of forms refuses what R84 leaves empty -/

theorem test_wf_refuses_empty_cells : ([⟨.sta, .immediate⟩, ⟨.ldx, .zeroPageX⟩, ⟨.ldy, .zeroPageY⟩, ⟨.stx, .absoluteY⟩,
    ⟨.jmp, .relative⟩, ⟨.jsr, .indirect⟩, ⟨.bit, .immediate⟩, ⟨.inc, .accumulator⟩, ⟨.asl, .implied⟩, ⟨.nop, .none⟩] : List Form).all
    (fun f => !f.wf) = true := by decide

theorem test_wf_accepts : ([⟨.lda, .indirectY⟩, ⟨.asl, .accumulator⟩, ⟨.jmp, .indirect⟩, ⟨.brk, .implied⟩] : List Form).all
    (fun f => f.wf) = true := by decide

/-! ### Decoding: every constructor, from the table of R84 and the formats of R82 (operand byte 0x9C, operand word 0xA75B) -/

/-- Every byte sequence decodes to its instruction and leaves nothing. -/
def decodesTo (table : List (List Byte × Instr)) : Bool := table.all fun r => decide (decode r.1 = .instr r.2 [])

theorem test_decode_load_store_1 : decodesTo [
    ([0b10101001#8, 0b10011100#8], .ldaImm 0x9C#8), ([0b10100101#8, 0b10011100#8], .ldaZp 0x9C#8),
    ([0b10110101#8, 0b10011100#8], .ldaZpx 0x9C#8), ([0b10101101#8, 0b01011011#8, 0b10100111#8], .ldaAbs 0xA75B#16),
    ([0b10111101#8, 0b01011011#8, 0b10100111#8], .ldaAbx 0xA75B#16),
    ([0b10111001#8, 0b01011011#8, 0b10100111#8], .ldaAby 0xA75B#16), ([0b10100001#8, 0b10011100#8], .ldaIzx 0x9C#8),
    ([0b10110001#8, 0b10011100#8], .ldaIzy 0x9C#8), ([0b10100010#8, 0b10011100#8], .ldxImm 0x9C#8),
    ([0b10100110#8, 0b10011100#8], .ldxZp 0x9C#8), ([0b10110110#8, 0b10011100#8], .ldxZpy 0x9C#8),
    ([0b10101110#8, 0b01011011#8, 0b10100111#8], .ldxAbs 0xA75B#16),
    ([0b10111110#8, 0b01011011#8, 0b10100111#8], .ldxAby 0xA75B#16), ([0b10100000#8, 0b10011100#8], .ldyImm 0x9C#8),
    ([0b10100100#8, 0b10011100#8], .ldyZp 0x9C#8), ([0b10110100#8, 0b10011100#8], .ldyZpx 0x9C#8),
    ([0b10101100#8, 0b01011011#8, 0b10100111#8], .ldyAbs 0xA75B#16),
    ([0b10111100#8, 0b01011011#8, 0b10100111#8], .ldyAbx 0xA75B#16), ([0b10000101#8, 0b10011100#8], .staZp 0x9C#8),
    ([0b10010101#8, 0b10011100#8], .staZpx 0x9C#8)] = true := by decide

theorem test_decode_load_store_2 : decodesTo [
    ([0b10001101#8, 0b01011011#8, 0b10100111#8], .staAbs 0xA75B#16),
    ([0b10011101#8, 0b01011011#8, 0b10100111#8], .staAbx 0xA75B#16),
    ([0b10011001#8, 0b01011011#8, 0b10100111#8], .staAby 0xA75B#16), ([0b10000001#8, 0b10011100#8], .staIzx 0x9C#8),
    ([0b10010001#8, 0b10011100#8], .staIzy 0x9C#8), ([0b10000110#8, 0b10011100#8], .stxZp 0x9C#8),
    ([0b10010110#8, 0b10011100#8], .stxZpy 0x9C#8), ([0b10001110#8, 0b01011011#8, 0b10100111#8], .stxAbs 0xA75B#16),
    ([0b10000100#8, 0b10011100#8], .styZp 0x9C#8), ([0b10010100#8, 0b10011100#8], .styZpx 0x9C#8),
    ([0b10001100#8, 0b01011011#8, 0b10100111#8], .styAbs 0xA75B#16), ([0b10101010#8], .tax), ([0b10101000#8], .tay),
    ([0b10001010#8], .txa), ([0b10011000#8], .tya), ([0b10111010#8], .tsx), ([0b10011010#8], .txs)] = true := by decide

theorem test_decode_add_sub : decodesTo [
    ([0b01101001#8, 0b10011100#8], .adcImm 0x9C#8), ([0b01100101#8, 0b10011100#8], .adcZp 0x9C#8),
    ([0b01110101#8, 0b10011100#8], .adcZpx 0x9C#8), ([0b01101101#8, 0b01011011#8, 0b10100111#8], .adcAbs 0xA75B#16),
    ([0b01111101#8, 0b01011011#8, 0b10100111#8], .adcAbx 0xA75B#16),
    ([0b01111001#8, 0b01011011#8, 0b10100111#8], .adcAby 0xA75B#16), ([0b01100001#8, 0b10011100#8], .adcIzx 0x9C#8),
    ([0b01110001#8, 0b10011100#8], .adcIzy 0x9C#8), ([0b11101001#8, 0b10011100#8], .sbcImm 0x9C#8),
    ([0b11100101#8, 0b10011100#8], .sbcZp 0x9C#8), ([0b11110101#8, 0b10011100#8], .sbcZpx 0x9C#8),
    ([0b11101101#8, 0b01011011#8, 0b10100111#8], .sbcAbs 0xA75B#16),
    ([0b11111101#8, 0b01011011#8, 0b10100111#8], .sbcAbx 0xA75B#16),
    ([0b11111001#8, 0b01011011#8, 0b10100111#8], .sbcAby 0xA75B#16), ([0b11100001#8, 0b10011100#8], .sbcIzx 0x9C#8),
    ([0b11110001#8, 0b10011100#8], .sbcIzy 0x9C#8)] = true := by decide

theorem test_decode_logic_1 : decodesTo [
    ([0b00101001#8, 0b10011100#8], .andImm 0x9C#8), ([0b00100101#8, 0b10011100#8], .andZp 0x9C#8),
    ([0b00110101#8, 0b10011100#8], .andZpx 0x9C#8), ([0b00101101#8, 0b01011011#8, 0b10100111#8], .andAbs 0xA75B#16),
    ([0b00111101#8, 0b01011011#8, 0b10100111#8], .andAbx 0xA75B#16),
    ([0b00111001#8, 0b01011011#8, 0b10100111#8], .andAby 0xA75B#16), ([0b00100001#8, 0b10011100#8], .andIzx 0x9C#8),
    ([0b00110001#8, 0b10011100#8], .andIzy 0x9C#8), ([0b00001001#8, 0b10011100#8], .oraImm 0x9C#8),
    ([0b00000101#8, 0b10011100#8], .oraZp 0x9C#8), ([0b00010101#8, 0b10011100#8], .oraZpx 0x9C#8),
    ([0b00001101#8, 0b01011011#8, 0b10100111#8], .oraAbs 0xA75B#16),
    ([0b00011101#8, 0b01011011#8, 0b10100111#8], .oraAbx 0xA75B#16),
    ([0b00011001#8, 0b01011011#8, 0b10100111#8], .oraAby 0xA75B#16), ([0b00000001#8, 0b10011100#8], .oraIzx 0x9C#8),
    ([0b00010001#8, 0b10011100#8], .oraIzy 0x9C#8), ([0b01001001#8, 0b10011100#8], .eorImm 0x9C#8),
    ([0b01000101#8, 0b10011100#8], .eorZp 0x9C#8), ([0b01010101#8, 0b10011100#8], .eorZpx 0x9C#8),
    ([0b01001101#8, 0b01011011#8, 0b10100111#8], .eorAbs 0xA75B#16)] = true := by decide

theorem test_decode_logic_2 : decodesTo [
    ([0b01011101#8, 0b01011011#8, 0b10100111#8], .eorAbx 0xA75B#16),
    ([0b01011001#8, 0b01011011#8, 0b10100111#8], .eorAby 0xA75B#16), ([0b01000001#8, 0b10011100#8], .eorIzx 0x9C#8),
    ([0b01010001#8, 0b10011100#8], .eorIzy 0x9C#8)] = true := by decide

theorem test_decode_compare_bit : decodesTo [
    ([0b11001001#8, 0b10011100#8], .cmpImm 0x9C#8), ([0b11000101#8, 0b10011100#8], .cmpZp 0x9C#8),
    ([0b11010101#8, 0b10011100#8], .cmpZpx 0x9C#8), ([0b11001101#8, 0b01011011#8, 0b10100111#8], .cmpAbs 0xA75B#16),
    ([0b11011101#8, 0b01011011#8, 0b10100111#8], .cmpAbx 0xA75B#16),
    ([0b11011001#8, 0b01011011#8, 0b10100111#8], .cmpAby 0xA75B#16), ([0b11000001#8, 0b10011100#8], .cmpIzx 0x9C#8),
    ([0b11010001#8, 0b10011100#8], .cmpIzy 0x9C#8), ([0b11100000#8, 0b10011100#8], .cpxImm 0x9C#8),
    ([0b11100100#8, 0b10011100#8], .cpxZp 0x9C#8), ([0b11101100#8, 0b01011011#8, 0b10100111#8], .cpxAbs 0xA75B#16),
    ([0b11000000#8, 0b10011100#8], .cpyImm 0x9C#8), ([0b11000100#8, 0b10011100#8], .cpyZp 0x9C#8),
    ([0b11001100#8, 0b01011011#8, 0b10100111#8], .cpyAbs 0xA75B#16), ([0b00100100#8, 0b10011100#8], .bitZp 0x9C#8),
    ([0b00101100#8, 0b01011011#8, 0b10100111#8], .bitAbs 0xA75B#16)] = true := by decide

theorem test_decode_increment : decodesTo [
    ([0b11100110#8, 0b10011100#8], .incZp 0x9C#8), ([0b11110110#8, 0b10011100#8], .incZpx 0x9C#8),
    ([0b11101110#8, 0b01011011#8, 0b10100111#8], .incAbs 0xA75B#16),
    ([0b11111110#8, 0b01011011#8, 0b10100111#8], .incAbx 0xA75B#16), ([0b11000110#8, 0b10011100#8], .decZp 0x9C#8),
    ([0b11010110#8, 0b10011100#8], .decZpx 0x9C#8), ([0b11001110#8, 0b01011011#8, 0b10100111#8], .decAbs 0xA75B#16),
    ([0b11011110#8, 0b01011011#8, 0b10100111#8], .decAbx 0xA75B#16), ([0b11101000#8], .inx), ([0b11001000#8], .iny),
    ([0b11001010#8], .dex), ([0b10001000#8], .dey)] = true := by decide

theorem test_decode_shift : decodesTo [
    ([0b00001010#8], .aslAcc), ([0b00000110#8, 0b10011100#8], .aslZp 0x9C#8), ([0b00010110#8, 0b10011100#8], .aslZpx 0x9C#8),
    ([0b00001110#8, 0b01011011#8, 0b10100111#8], .aslAbs 0xA75B#16),
    ([0b00011110#8, 0b01011011#8, 0b10100111#8], .aslAbx 0xA75B#16), ([0b01001010#8], .lsrAcc),
    ([0b01000110#8, 0b10011100#8], .lsrZp 0x9C#8), ([0b01010110#8, 0b10011100#8], .lsrZpx 0x9C#8),
    ([0b01001110#8, 0b01011011#8, 0b10100111#8], .lsrAbs 0xA75B#16),
    ([0b01011110#8, 0b01011011#8, 0b10100111#8], .lsrAbx 0xA75B#16), ([0b00101010#8], .rolAcc),
    ([0b00100110#8, 0b10011100#8], .rolZp 0x9C#8), ([0b00110110#8, 0b10011100#8], .rolZpx 0x9C#8),
    ([0b00101110#8, 0b01011011#8, 0b10100111#8], .rolAbs 0xA75B#16),
    ([0b00111110#8, 0b01011011#8, 0b10100111#8], .rolAbx 0xA75B#16), ([0b01101010#8], .rorAcc),
    ([0b01100110#8, 0b10011100#8], .rorZp 0x9C#8), ([0b01110110#8, 0b10011100#8], .rorZpx 0x9C#8),
    ([0b01101110#8, 0b01011011#8, 0b10100111#8], .rorAbs 0xA75B#16),
    ([0b01111110#8, 0b01011011#8, 0b10100111#8], .rorAbx 0xA75B#16)] = true := by decide

theorem test_decode_flag_nop : decodesTo [
    ([0b00011000#8], .clc), ([0b00111000#8], .sec), ([0b01011000#8], .cli), ([0b01111000#8], .sei), ([0b11011000#8], .cld),
    ([0b11111000#8], .sed), ([0b10111000#8], .clv), ([0b11101010#8], .nop)] = true := by decide

theorem test_decode_stack : decodesTo [
    ([0b01001000#8], .pha), ([0b01101000#8], .pla), ([0b00001000#8], .php), ([0b00101000#8], .plp)] = true := by decide

theorem test_decode_control : decodesTo [
    ([0b01001100#8, 0b01011011#8, 0b10100111#8], .jmpAbs 0xA75B#16),
    ([0b01101100#8, 0b01011011#8, 0b10100111#8], .jmpInd 0xA75B#16),
    ([0b00100000#8, 0b01011011#8, 0b10100111#8], .jsr 0xA75B#16), ([0b01100000#8], .rts),
    ([0b10010000#8, 0b10011100#8], .bcc 0x9C#8), ([0b10110000#8, 0b10011100#8], .bcs 0x9C#8),
    ([0b11110000#8, 0b10011100#8], .beq 0x9C#8), ([0b00110000#8, 0b10011100#8], .bmi 0x9C#8),
    ([0b11010000#8, 0b10011100#8], .bne 0x9C#8), ([0b00010000#8, 0b10011100#8], .bpl 0x9C#8),
    ([0b01010000#8, 0b10011100#8], .bvc 0x9C#8), ([0b01110000#8, 0b10011100#8], .bvs 0x9C#8), ([0b00000000#8], .brk),
    ([0b01000000#8], .rti)] = true := by decide

/-- R85: no handler, no fall through to a neighbour (0xEB is the undocumented NMOS SBC). -/
theorem test_decode_undefined : ([0x02#8, 0x80#8, 0x89#8, 0x9E#8, 0xEB#8, 0xFF#8] : List Byte).all
    (fun op => decide (decode [op, 0x00#8, 0x00#8] = .reject (.undefinedOpcode op))) = true := by decide

theorem test_decode_truncated : decode [0xAD#8, 0x34#8] = .reject .truncated ∧ decode [] = .reject .truncated := by decide

/-- Opcode in bits 7..0, the operand's low byte in bits 15..8, its high byte in bits 23..16. -/
theorem test_table_word : decodeTableWord 24 0x1234AD = some (.ldaAbs 0x1234#16) ∧
    decodeTableWord 16 0x42A9 = some (.ldaImm 0x42#8) ∧ decodeTableWord 8 0x02 = none := by decide

/-! ### One step each (95_test_vectors.md Part 2) -/

/-- The start of Part 2: A, X, Y, P and memory zero, SP 0xFF, Steady, the instruction's bytes at PC and the cells listed. -/
def start (pc : Word) (code : List Byte) (cells : List (Word × Byte) := []) : State where
  pc := pc
  sp := 0xFF#8
  a := 0x00#8
  x := 0x00#8
  y := 0x00#8
  p := 0x00#8
  mem := cells.foldl (fun m c => m.write c.1 c.2) (Memory.map [] pc code)
  run := .steady

/-- An outcome is a next state that passes a check. -/
def givesNext (o : Out) (check : State → Bool) : Bool :=
  match o with
  | .next t => check t
  | _ => false

theorem test_fetch_word : givesNext (step (State.reset.withFetchWord 16 0x80A9))
    (fun t => t.a == 0x80#8 && t.pc == 0x0002#16) = true := by decide

theorem test_lda_A1 : givesNext (step (start 0x0200#16 [0xA5#8, 0x10#8] [(0x0010#16, 0x55#8)]))
    (fun t => t.a == 0x55#8 && t.p == 0x00#8) = true := by decide

theorem test_lda_A2 : givesNext (step { start 0x0200#16 [0xB5#8, 0xF0#8]
    [(0x0010#16, 0x77#8), (0x0110#16, 0x99#8)] with x := 0x20#8 })
    (fun t => t.a == 0x77#8 && t.p == 0x00#8) = true := by decide

theorem test_ldx_A3 : givesNext (step { start 0x0200#16 [0xB6#8, 0xFF#8]
    [(0x00FF#16, 0x33#8), (0x0100#16, 0x44#8)] with y := 0x01#8 })
    (fun t => t.p == 0x02#8) = true := by decide

theorem test_lda_A4 : givesNext (step (start 0x0200#16 [0xAD#8, 0x34#8, 0x12#8] [(0x1234#16, 0x80#8)]))
    (fun t => t.a == 0x80#8 && t.p == 0x80#8) = true := by decide

theorem test_lda_A5 : givesNext (step { start 0x0200#16 [0xBD#8, 0xF0#8, 0xFF#8] [(0x0010#16, 0x5A#8)] with x := 0x20#8 })
    (fun t => t.a == 0x5A#8 && t.p == 0x00#8) = true := by decide

theorem test_lda_A6 : givesNext (step { start 0x0200#16 [0xB9#8, 0xFF#8, 0x12#8] [(0x1300#16, 0x01#8)] with y := 0x01#8 })
    (fun t => t.a == 0x01#8 && t.p == 0x00#8) = true := by decide

theorem test_lda_A8 : givesNext (step { start 0x0200#16 [0xA1#8, 0xFF#8]
    [(0x0000#16, 0x34#8), (0x0001#16, 0x12#8), (0x0002#16, 0x00#8), (0x0012#16, 0x99#8), (0x1234#16, 0x66#8)] with x := 0x01#8 })
    (fun t => t.a == 0x66#8 && t.p == 0x00#8) = true := by decide

theorem test_lda_A9 : givesNext (step (start 0x0200#16 [0xA1#8, 0xFF#8]
    [(0x0000#16, 0x40#8), (0x00FF#16, 0x00#8), (0x0100#16, 0x50#8), (0x4000#16, 0x3C#8), (0x5000#16, 0xC3#8)]))
    (fun t => t.a == 0x3C#8 && t.p == 0x00#8) = true := by decide

theorem test_lda_A10 : givesNext (step { start 0x0200#16 [0xB1#8, 0x20#8]
    [(0x0020#16, 0xF8#8), (0x0021#16, 0x30#8), (0x3108#16, 0x01#8)] with y := 0x10#8 })
    (fun t => t.a == 0x01#8 && t.p == 0x00#8) = true := by decide

theorem test_lda_A11 : givesNext (step (start 0x0200#16 [0xB1#8, 0xFF#8]
    [(0x0000#16, 0x20#8), (0x00FF#16, 0x10#8), (0x0100#16, 0x30#8), (0x2010#16, 0x7E#8)]))
    (fun t => t.a == 0x7E#8 && t.p == 0x00#8) = true := by decide

theorem test_jmp_A14 : givesNext (step (start 0x0200#16 [0x6C#8, 0xFF#8, 0x12#8]
    [(0x1200#16, 0x50#8), (0x12FF#16, 0x00#8), (0x1300#16, 0x40#8)]))
    (fun t => t.pc == 0x4000#16 && t.p == 0x00#8) = true := by decide

theorem test_lda_A15 : givesNext (step (start 0xFFFF#16 [0xA9#8] [(0x0000#16, 0x42#8)]))
    (fun t => t.a == 0x42#8 && t.pc == 0x0001#16) = true := by decide

theorem test_asl_A16 : givesNext (step { start 0x0200#16 [0x0A#8] with a := 0x81#8 })
    (fun t => t.a == 0x02#8 && t.p == 0x01#8) = true := by decide

theorem test_lda_L2 : givesNext (step { start 0x0200#16 [0xA9#8, 0x80#8] with p := 0x02#8 })
    (fun t => t.a == 0x80#8 && t.p == 0x80#8) = true := by decide

theorem test_ldx_L3 : givesNext (step { start 0x0200#16 [0xA2#8, 0x7F#8] with p := 0x83#8 })
    (fun t => t.x == 0x7F#8 && t.p == 0x01#8) = true := by decide

theorem test_ldy_L4 : givesNext (step { start 0x0200#16 [0xBC#8, 0x00#8, 0x20#8] [(0x2005#16, 0xFE#8)] with x := 0x05#8 })
    (fun t => t.y == 0xFE#8 && t.p == 0x80#8) = true := by decide

theorem test_sta_L5 : givesNext (step { start 0x0200#16 [0x85#8, 0x10#8] with a := 0x42#8, p := 0x83#8 })
    (fun t => t.mem.read 0x0010#16 == 0x42#8 && t.p == 0x83#8) = true := by decide

theorem test_sta_L6 : givesNext (step { start 0x0200#16 [0x91#8, 0x40#8]
    [(0x0040#16, 0x00#8), (0x0041#16, 0x05#8)] with a := 0x99#8, y := 0x03#8 })
    (fun t => t.mem.read 0x0503#16 == 0x99#8 && t.p == 0x00#8) = true := by decide

theorem test_stx_L7 : givesNext (step { start 0x0200#16 [0x96#8, 0xFF#8] with x := 0x07#8, y := 0x02#8 })
    (fun t => t.mem.read 0x0001#16 == 0x07#8 && t.p == 0x00#8) = true := by decide

theorem test_sty_L8 : givesNext (step { start 0x0200#16 [0x8C#8, 0x00#8, 0x03#8] with y := 0x09#8 })
    (fun t => t.mem.read 0x0300#16 == 0x09#8 && t.p == 0x00#8) = true := by decide

theorem test_tax_L9 : givesNext (step { start 0x0200#16 [0xAA#8] with a := 0xFF#8 })
    (fun t => t.x == 0xFF#8 && t.p == 0x80#8) = true := by decide

theorem test_tay_L10 : givesNext (step { start 0x0200#16 [0xA8#8] with y := 0x12#8 })
    (fun t => t.y == 0x00#8 && t.p == 0x02#8) = true := by decide

theorem test_txa_L11 : givesNext (step { start 0x0200#16 [0x8A#8] with a := 0x80#8, x := 0x10#8, p := 0x80#8 })
    (fun t => t.a == 0x10#8 && t.p == 0x00#8) = true := by decide

theorem test_tya_L12 : givesNext (step { start 0x0200#16 [0x98#8] with y := 0x80#8 })
    (fun t => t.a == 0x80#8 && t.p == 0x80#8) = true := by decide

theorem test_tsx_L13 : givesNext (step { start 0x0200#16 [0xBA#8] with x := 0x55#8, sp := 0x00#8 })
    (fun t => t.x == 0x00#8 && t.p == 0x02#8) = true := by decide

theorem test_txs_L14 : givesNext (step { start 0x0200#16 [0x9A#8] with x := 0x80#8, p := 0x02#8 })
    (fun t => t.sp == 0x80#8 && t.p == 0x02#8) = true := by decide

theorem test_sta_L15 : givesNext (step { start 0x0200#16 [0x8D#8, 0x01#8, 0x02#8] with a := 0xEA#8 })
    (fun t => t.mem.read 0x0201#16 == 0xEA#8 && t.p == 0x00#8) = true := by decide

theorem test_adc_N1 : givesNext (step { start 0x0200#16 [0x65#8, 0x10#8] [(0x0010#16, 0x02#8)] with a := 0x05#8 })
    (fun t => t.a == 0x07#8 && t.p == 0x00#8) = true := by decide

theorem test_adc_N4 : givesNext (step { start 0x0200#16 [0x69#8, 0x80#8] with a := 0x80#8 })
    (fun t => t.a == 0x00#8 && t.p == 0x43#8) = true := by decide

theorem test_sbc_N10 : givesNext (step { start 0x0200#16 [0xE9#8, 0x01#8] with a := 0x80#8, p := 0x01#8 })
    (fun t => t.a == 0x7F#8 && t.p == 0x41#8) = true := by decide

theorem test_sbc_N13 : givesNext (step (start 0x0200#16 [0xE9#8, 0x7F#8]))
    (fun t => t.a == 0x80#8 && t.p == 0x80#8) = true := by decide

theorem test_and_N15 : givesNext (step { start 0x0200#16 [0x29#8, 0x0F#8] with a := 0xF0#8 })
    (fun t => t.a == 0x00#8 && t.p == 0x02#8) = true := by decide

theorem test_and_N16 : givesNext (step { start 0x0200#16 [0x29#8, 0x80#8] with a := 0xC1#8, p := 0x41#8 })
    (fun t => t.a == 0x80#8 && t.p == 0xC1#8) = true := by decide

theorem test_ora_N17 : givesNext (step { start 0x0200#16 [0x09#8, 0x01#8] with a := 0x80#8 })
    (fun t => t.a == 0x81#8 && t.p == 0x80#8) = true := by decide

theorem test_ora_N18 : givesNext (step { start 0x0200#16 [0x05#8, 0x10#8] [(0x0010#16, 0x00#8)] with p := 0x80#8 })
    (fun t => t.p == 0x02#8) = true := by decide

theorem test_eor_N19 : givesNext (step { start 0x0200#16 [0x49#8, 0xFF#8] with a := 0xFF#8 })
    (fun t => t.a == 0x00#8 && t.p == 0x02#8) = true := by decide

theorem test_eor_N20 : givesNext (step { start 0x0200#16 [0x49#8, 0xFF#8] with a := 0x0F#8 })
    (fun t => t.a == 0xF0#8 && t.p == 0x80#8) = true := by decide

theorem test_cmp_K2 : givesNext (step { start 0x0200#16 [0xC9#8, 0x07#8] with a := 0x06#8 })
    (fun t => t.p == 0x80#8) = true := by decide

theorem test_cmp_K3 : givesNext (step { start 0x0200#16 [0xC9#8, 0x01#8] with a := 0x80#8 })
    (fun t => t.p == 0x01#8) = true := by decide

theorem test_cpx_K6 : givesNext (step { start 0x0200#16 [0xE0#8, 0x20#8] with x := 0x10#8, p := 0x01#8 })
    (fun t => t.p == 0x80#8) = true := by decide

theorem test_cpy_K8 : givesNext (step (start 0x0200#16 [0xC0#8, 0xFF#8]))
    (fun t => t.p == 0x00#8) = true := by decide

theorem test_cpy_K7 : givesNext (step { start 0x0200#16 [0xC4#8, 0x10#8] [(0x0010#16, 0x42#8)] with y := 0x42#8 })
    (fun t => t.p == 0x03#8) = true := by decide

theorem test_bit_K9 : givesNext (step { start 0x0200#16 [0x24#8, 0x10#8] [(0x0010#16, 0xC0#8)] with p := 0x01#8 })
    (fun t => t.p == 0xC3#8) = true := by decide

theorem test_bit_K10 : givesNext (step { start 0x0200#16 [0x24#8, 0x10#8] [(0x0010#16, 0x41#8)] with a := 0x01#8 })
    (fun t => t.p == 0x40#8) = true := by decide

theorem test_bit_K11 : givesNext (step { start 0x0200#16 [0x2C#8, 0x34#8, 0x12#8]
    [(0x1234#16, 0x3F#8)] with a := 0xFF#8, p := 0xC0#8 })
    (fun t => t.p == 0x00#8) = true := by decide

theorem test_inc_I1 : givesNext (step (start 0x0200#16 [0xE6#8, 0x10#8] [(0x0010#16, 0xFF#8)]))
    (fun t => t.mem.read 0x0010#16 == 0x00#8 && t.p == 0x02#8) = true := by decide

theorem test_inc_I2 : givesNext (step { start 0x0200#16 [0xFE#8, 0x00#8, 0x30#8] [(0x3001#16, 0x7F#8)] with x := 0x01#8 })
    (fun t => t.mem.read 0x3001#16 == 0x80#8 && t.p == 0x80#8) = true := by decide

theorem test_dec_I3 : givesNext (step (start 0x0200#16 [0xC6#8, 0x10#8] [(0x0010#16, 0x00#8)]))
    (fun t => t.mem.read 0x0010#16 == 0xFF#8 && t.p == 0x80#8) = true := by decide

theorem test_dec_I4 : givesNext (step { start 0x0200#16 [0xD6#8, 0xF0#8] [(0x0001#16, 0x01#8)] with x := 0x11#8 })
    (fun t => t.mem.read 0x0001#16 == 0x00#8 && t.p == 0x02#8) = true := by decide

theorem test_inx_I5 : givesNext (step { start 0x0200#16 [0xE8#8] with x := 0xFF#8, p := 0x01#8 })
    (fun t => t.x == 0x00#8 && t.p == 0x03#8) = true := by decide

theorem test_iny_I6 : givesNext (step { start 0x0200#16 [0xC8#8] with y := 0x7F#8 })
    (fun t => t.y == 0x80#8 && t.p == 0x80#8) = true := by decide

theorem test_dex_I7 : givesNext (step { start 0x0200#16 [0xCA#8] with x := 0x01#8 })
    (fun t => t.x == 0x00#8 && t.p == 0x02#8) = true := by decide

theorem test_dey_I8 : givesNext (step (start 0x0200#16 [0x88#8]))
    (fun t => t.y == 0xFF#8 && t.p == 0x80#8) = true := by decide

theorem test_asl_H1 : givesNext (step { start 0x0200#16 [0x0A#8] with a := 0x80#8 })
    (fun t => t.a == 0x00#8 && t.p == 0x03#8) = true := by decide

theorem test_asl_H2 : givesNext (step { start 0x0200#16 [0x06#8, 0x10#8] [(0x0010#16, 0x41#8)] with p := 0x01#8 })
    (fun t => t.mem.read 0x0010#16 == 0x82#8 && t.p == 0x80#8) = true := by decide

theorem test_lsr_H3 : givesNext (step { start 0x0200#16 [0x4A#8] with a := 0x01#8, p := 0x80#8 })
    (fun t => t.a == 0x00#8 && t.p == 0x03#8) = true := by decide

theorem test_lsr_H4 : givesNext (step (start 0x0200#16 [0x4E#8, 0x00#8, 0x20#8] [(0x2000#16, 0xFF#8)]))
    (fun t => t.mem.read 0x2000#16 == 0x7F#8 && t.p == 0x01#8) = true := by decide

theorem test_rol_H5 : givesNext (step { start 0x0200#16 [0x2A#8] with a := 0x80#8, p := 0x01#8 })
    (fun t => t.a == 0x01#8 && t.p == 0x01#8) = true := by decide

theorem test_rol_H6 : givesNext (step { start 0x0200#16 [0x2A#8] with a := 0x80#8 })
    (fun t => t.a == 0x00#8 && t.p == 0x03#8) = true := by decide

theorem test_rol_H7 : givesNext (step { start 0x0200#16 [0x36#8, 0x10#8]
    [(0x0012#16, 0x40#8)] with x := 0x02#8, p := 0x01#8 })
    (fun t => t.mem.read 0x0012#16 == 0x81#8 && t.p == 0x80#8) = true := by decide

theorem test_ror_H8 : givesNext (step { start 0x0200#16 [0x6A#8] with a := 0x01#8 })
    (fun t => t.a == 0x00#8 && t.p == 0x03#8) = true := by decide

theorem test_ror_H9 : givesNext (step { start 0x0200#16 [0x6A#8] with p := 0x01#8 })
    (fun t => t.a == 0x80#8 && t.p == 0x80#8) = true := by decide

theorem test_ror_H10 : givesNext (step { start 0x0200#16 [0x7E#8, 0x00#8, 0x30#8]
    [(0x3001#16, 0x02#8)] with x := 0x01#8, p := 0x01#8 })
    (fun t => t.mem.read 0x3001#16 == 0x81#8 && t.p == 0x80#8) = true := by decide

theorem test_clc_F1 : givesNext (step { start 0x0200#16 [0x18#8] with p := 0xFF#8 })
    (fun t => t.p == 0xFE#8) = true := by decide

theorem test_sec_F2 : givesNext (step (start 0x0200#16 [0x38#8]))
    (fun t => t.p == 0x01#8) = true := by decide

theorem test_cli_F3 : givesNext (step { start 0x0200#16 [0x58#8] with p := 0x14#8 })
    (fun t => t.p == 0x10#8) = true := by decide

theorem test_sei_F4 : givesNext (step { start 0x0200#16 [0x78#8] with p := 0x10#8 })
    (fun t => t.p == 0x14#8) = true := by decide

theorem test_cld_F5 : givesNext (step { start 0x0200#16 [0xD8#8] with p := 0x08#8 })
    (fun t => t.p == 0x00#8) = true := by decide

theorem test_sed_F6 : givesNext (step (start 0x0200#16 [0xF8#8]))
    (fun t => t.p == 0x08#8) = true := by decide

theorem test_clv_F7 : givesNext (step { start 0x0200#16 [0xB8#8] with p := 0xC0#8 })
    (fun t => t.p == 0x80#8) = true := by decide

theorem test_nop_F8 : givesNext (step { start 0x0200#16 [0xEA#8] with a := 0x11#8, x := 0x22#8, y := 0x33#8, p := 0xA5#8 })
    (fun t => t.a == 0x11#8 && t.p == 0xA5#8) = true := by decide

theorem test_pha_T1 : givesNext (step { start 0x0200#16 [0x48#8] with a := 0x42#8 })
    (fun t => t.mem.read 0x01FF#16 == 0x42#8 && t.sp == 0xFE#8) = true := by decide

theorem test_pha_T2 : givesNext (step { start 0x0200#16 [0x48#8] with a := 0x42#8, sp := 0x00#8 })
    (fun t => t.mem.read 0x0100#16 == 0x42#8 && t.sp == 0xFF#8) = true := by decide

theorem test_pla_T3 : givesNext (step { start 0x0200#16 [0x68#8] [(0x01FF#16, 0x80#8)] with sp := 0xFE#8 })
    (fun t => t.a == 0x80#8 && t.sp == 0xFF#8) = true := by decide

theorem test_pla_T4 : givesNext (step { start 0x0200#16 [0x68#8] [(0x0100#16, 0x00#8)] with a := 0x12#8 })
    (fun t => t.a == 0x00#8 && t.sp == 0x00#8) = true := by decide

theorem test_php_T5 : givesNext (step { start 0x0200#16 [0x08#8] with p := 0xD3#8 })
    (fun t => t.mem.read 0x01FF#16 == 0xD3#8 && t.sp == 0xFE#8) = true := by decide

theorem test_plp_T6 : givesNext (step { start 0x0200#16 [0x28#8] [(0x01FF#16, 0xC3#8)] with sp := 0xFE#8 })
    (fun t => t.sp == 0xFF#8 && t.p == 0xC3#8) = true := by decide

theorem test_plp_T7 : givesNext (step { start 0x0200#16 [0x28#8] [(0x01FF#16, 0x38#8)] with sp := 0xFE#8, p := 0x04#8 })
    (fun t => t.sp == 0xFF#8 && t.p == 0x38#8) = true := by decide

theorem test_jmp_J1 : givesNext (step (start 0x0200#16 [0x4C#8, 0x00#8, 0x03#8]))
    (fun t => t.pc == 0x0300#16 && t.p == 0x00#8) = true := by decide

theorem test_jsr_J3 : givesNext (step (start 0x0001#16 [0x20#8, 0xA0#8, 0x01#8]))
    (fun t => t.pc == 0x01A0#16 && t.mem.read 0x01FF#16 == 0x00#8) = true := by decide

theorem test_jsr_J5 : givesNext (step (start 0xFFFD#16 [0x20#8, 0x34#8, 0x12#8]))
    (fun t => t.pc == 0x1234#16 && t.mem.read 0x01FF#16 == 0xFF#8) = true := by decide

theorem test_rts_J4 : givesNext (step { start 0x01A0#16 [0x60#8]
    [(0x01FE#16, 0x03#8), (0x01FF#16, 0x00#8)] with sp := 0xFD#8 })
    (fun t => t.pc == 0x0004#16 && t.sp == 0xFF#8) = true := by decide

theorem test_rts_J6 : givesNext (step { start 0x0200#16 [0x60#8]
    [(0x01FE#16, 0xFF#8), (0x01FF#16, 0xFF#8)] with sp := 0xFD#8 })
    (fun t => t.pc == 0x0000#16 && t.sp == 0xFF#8) = true := by decide

theorem test_bcc_B1 : givesNext (step (start 0x0400#16 [0x90#8, 0x10#8]))
    (fun t => t.pc == 0x0412#16 && t.p == 0x00#8) = true := by decide

theorem test_bcc_B2 : givesNext (step { start 0x0400#16 [0x90#8, 0x10#8] with p := 0x01#8 })
    (fun t => t.pc == 0x0402#16 && t.p == 0x01#8) = true := by decide

theorem test_bcs_B3 : givesNext (step (start 0x0400#16 [0xB0#8, 0x10#8]))
    (fun t => t.pc == 0x0402#16 && t.p == 0x00#8) = true := by decide

theorem test_bcs_B20 : givesNext (step { start 0x0300#16 [0xB0#8, 0x00#8] with p := 0x01#8 })
    (fun t => t.pc == 0x0302#16 && t.p == 0x01#8) = true := by decide

theorem test_beq_B5 : givesNext (step (start 0x0400#16 [0xF0#8, 0x10#8]))
    (fun t => t.pc == 0x0402#16 && t.p == 0x00#8) = true := by decide

theorem test_beq_B18 : givesNext (step { start 0x0300#16 [0xF0#8, 0xFE#8] with p := 0x02#8 })
    (fun t => t.pc == 0x0300#16 && t.p == 0x02#8) = true := by decide

theorem test_bmi_B7 : givesNext (step (start 0x0400#16 [0x30#8, 0x10#8]))
    (fun t => t.pc == 0x0402#16 && t.p == 0x00#8) = true := by decide

theorem test_bmi_B8 : givesNext (step { start 0x0400#16 [0x30#8, 0x10#8] with p := 0x80#8 })
    (fun t => t.pc == 0x0412#16 && t.p == 0x80#8) = true := by decide

theorem test_bne_B10 : givesNext (step { start 0x0400#16 [0xD0#8, 0x10#8] with p := 0x02#8 })
    (fun t => t.pc == 0x0402#16 && t.p == 0x02#8) = true := by decide

theorem test_bne_B19 : givesNext (step (start 0xFFF0#16 [0xD0#8, 0x7F#8]))
    (fun t => t.pc == 0x0071#16 && t.p == 0x00#8) = true := by decide

theorem test_bpl_B11 : givesNext (step (start 0x0400#16 [0x10#8, 0x10#8]))
    (fun t => t.pc == 0x0412#16 && t.p == 0x00#8) = true := by decide

theorem test_bpl_B12 : givesNext (step { start 0x0400#16 [0x10#8, 0x10#8] with p := 0x80#8 })
    (fun t => t.pc == 0x0402#16 && t.p == 0x80#8) = true := by decide

theorem test_bvc_B13 : givesNext (step (start 0x0400#16 [0x50#8, 0x10#8]))
    (fun t => t.pc == 0x0412#16 && t.p == 0x00#8) = true := by decide

theorem test_bvc_B14 : givesNext (step { start 0x0400#16 [0x50#8, 0x10#8] with p := 0x40#8 })
    (fun t => t.pc == 0x0402#16 && t.p == 0x40#8) = true := by decide

theorem test_bvs_B15 : givesNext (step (start 0x0400#16 [0x70#8, 0x10#8]))
    (fun t => t.pc == 0x0402#16 && t.p == 0x00#8) = true := by decide

theorem test_bvs_B16 : givesNext (step { start 0x0400#16 [0x70#8, 0x10#8] with p := 0x40#8 })
    (fun t => t.pc == 0x0412#16 && t.p == 0x40#8) = true := by decide

theorem test_brk_X1 : givesNext (step (start 0x0200#16 [0x00#8] [(0xFFFE#16, 0x00#8), (0xFFFF#16, 0x80#8)]))
    (fun t => t.pc == 0x8000#16 && t.mem.read 0x01FF#16 == 0x02#8) = true := by decide

theorem test_brk_X3 : givesNext (step { start 0x0200#16 [0x00#8]
    [(0xFFFE#16, 0x00#8), (0xFFFF#16, 0x90#8)] with p := 0xC7#8 })
    (fun t => t.mem.read 0x01FD#16 == 0xC7#8 && t.p == 0xD7#8) = true := by decide

theorem test_rti_X2 : givesNext (step { start 0x8000#16 [0x40#8]
    [(0x01FD#16, 0x00#8), (0x01FE#16, 0x02#8), (0x01FF#16, 0x02#8)] with sp := 0xFC#8, p := 0x14#8 })
    (fun t => t.pc == 0x0202#16 && t.p == 0x00#8) = true := by decide

theorem test_undefined_E1 : givesNext (step (start 0x0200#16 [0x02#8, 0xEA#8]))
    (fun t => decide (t.run = .fatal ⟨.unknownOpcode, 0x02#8, 0x0200#16⟩) && t.pc == 0x0200#16) = true := by decide

theorem test_undefined_E6 : givesNext (step { start 0x0200#16 [0xEB#8, 0x01#8] with a := 0x05#8, p := 0x01#8 })
    (fun t => decide (t.run = .fatal ⟨.unknownOpcode, 0xEB#8, 0x0200#16⟩) && t.pc == 0x0200#16) = true := by decide

theorem test_adc_E3 : givesNext (step { start 0x0200#16 [0x69#8, 0x01#8] with a := 0x10#8, p := 0x09#8 })
    (fun t => decide (t.run = .fatal ⟨.unimplementedFeature, 0x69#8, 0x0200#16⟩) && t.pc == 0x0200#16) = true := by decide

theorem test_sbc_E4 : givesNext (step { start 0x0200#16 [0xE5#8, 0x10#8]
    [(0x0010#16, 0x01#8)] with a := 0x10#8, p := 0x08#8 })
    (fun t => decide (t.run = .fatal ⟨.unimplementedFeature, 0xE5#8, 0x0200#16⟩) && t.pc == 0x0200#16) = true := by decide

theorem test_irq_X4 : givesNext (interrupt { start 0x0200#16 [0xEA#8]
    [(0xFFFE#16, 0x00#8), (0xFFFF#16, 0x90#8)] with p := 0x81#8 })
    (fun t => t.pc == 0x9000#16 && t.mem.read 0x01FF#16 == 0x02#8) = true := by decide

theorem test_irq_masked_X5 : givesNext (interrupt { start 0x0200#16 [0xEA#8]
    [(0xFFFE#16, 0x00#8), (0xFFFF#16, 0x90#8)] with p := 0x04#8 })
    (fun t => t.pc == 0x0200#16 && t.p == 0x04#8) = true := by decide

theorem test_nmi_X6 : givesNext (nonMaskableInterrupt { start 0x0200#16 [0xEA#8]
    [(0xFFFA#16, 0x00#8), (0xFFFB#16, 0xA0#8)] with p := 0x14#8 })
    (fun t => t.pc == 0xA000#16 && t.p == 0x04#8) = true := by decide

/-! ### Boot, run and the calls outside the lifecycle -/

/-- A core before boot: its memory is INIT_MEM, here with a reset vector and one byte of data. -/
def beforeBoot : State :=
  { start 0x0000#16 [] [(0xFFFC#16, 0x34#8), (0xFFFD#16, 0x12#8), (0x0004#16, 0x77#8)] with run := .unbooted, sp := 0x99#8 }

/-- 70_reset_and_hazards.md R270, vector R3: the ROM bytes are placed, the others keep INIT_MEM, PC comes from the vector. -/
theorem test_boot_R3 : givesNext (boot 0x5A#8 [0xEA#8, 0xEA#8, 0xEA#8, 0xEA#8] beforeBoot)
    (fun t => t.pc == 0x1234#16 && t.sp == 0x5A#8 && t.mem.read 0x0003#16 == 0xEA#8 && t.mem.read 0x0004#16 == 0x77#8) = true := by
  decide

/-- Vector R2: I is 1 after boot, so the first IRQ is discarded. -/
theorem test_boot_R2 : givesNext (boot 0x5A#8 [] beforeBoot)
    (fun t => givesNext (interrupt t) (fun u => decide (u = t) && u.p == 0x04#8)) = true := by decide

/-- Vector R4. -/
theorem test_boot_R4 : boot 0x5A#8 (List.replicate 65537 0x00#8) beforeBoot = .fault .malformedRom := by
  have h : Config.memorySize < (List.replicate 65537 (0x00#8 : Byte)).length := by rw [List.length_replicate]; decide
  have hr : beforeBoot.run = .unbooted := rfl
  unfold boot; rw [hr]; exact if_pos h

/-- Vector E2 and 60_exceptions.md R243: the second execute() returns the recorded error. -/
theorem test_fatal_E2 : step { start 0x0200#16 [0x02#8, 0xEA#8] with run := .fatal ⟨.unknownOpcode, 0x02#8, 0x0200#16⟩ } =
    .fault (.fatal ⟨.unknownOpcode, 0x02#8, 0x0200#16⟩) := rfl

/-- 40_execution.md R114, vector P6: run(10) ends at the first fatal error, here the second instruction (SED, ADC). -/
theorem test_run_stops_P6 : givesNext (run 10 (start 0x8003#16 [0xF8#8, 0x69#8, 0x01#8]))
    (fun t => decide (t.run = .fatal ⟨.unimplementedFeature, 0x69#8, 0x8004#16⟩)) = true := by decide

/-- 20_memory.md, vector M2: a word at 0xFFFF has its high byte at 0x0000. -/
theorem test_word_M2 : (Memory.writeWord [] 0xFFFF#16 0xBEEF#16).read 0x0000#16 = 0xBE#8 ∧
    (Memory.writeWord [] 0xFFFF#16 0xBEEF#16).readWord 0xFFFF#16 = 0xBEEF#16 := by decide

/-- Vector M4: a word pushed at SP 0x00 wraps inside the stack page. -/
theorem test_push_M4 : (({ start 0x0200#16 [] with sp := 0x00#8 }).push16 0xABCD#16).mem.read 0x01FF#16 = 0xCD#8 ∧
    (({ start 0x0200#16 [] with sp := 0x00#8 }).push16 0xABCD#16).top16 = 0xABCD#16 := by decide

/-- Vector M7: a vector byte is writable, and writing what an unlisted byte reads as unlists it. -/
theorem test_write_M7 : (Memory.write (Memory.write [] 0xFFFC#16 0x34#8) 0xFFFC#16 0x00#8).read 0xFFFC#16 = 0x00#8 ∧
    Memory.write (Memory.write [] 0xFFFC#16 0x34#8) 0xFFFC#16 0x00#8 = [] := by decide

/-- 40_execution.md R116 and 60_exceptions.md R258: the dump shows the mode at PC, and the byte a pop would read first. -/
theorem test_dump : (dump { start 0x0200#16 [0x02#8] [(0x0100#16, 0x5A#8)] with sp := 0xFF#8 }).mode = .none ∧
    (dump { start 0x0200#16 [0xB1#8] [(0x0100#16, 0x5A#8)] with sp := 0xFF#8 }).mode = .indirectY ∧
    (dump { start 0x0200#16 [0xB1#8] [(0x0100#16, 0x5A#8)] with sp := 0xFF#8 }).stack.head? = some 0x5A#8 := by decide

/-! ### Witnesses: every hypothesis of a statement, met at once -/

theorem witness_FormsHaveOneOpcode : opcodeForm 0xA9#8 = some ⟨.lda, .immediate⟩ := by decide

theorem witness_WordAccessesAreLittleEndian : (0x0001#16 : Word) ≠ 0xFFFF#16 ∧ (0x0001#16 : Word) ≠ 0xFFFF#16 + 1#16 := by decide

theorem witness_MapCopiesTheSource : (0xFFFE#16 : Word).toNat + ([0xEA#8, 0xEB#8] : List Byte).length ≤ 65536 ∧
    ((0xFFFE#16 : Word).toNat ≤ (0xFFFF#16 : Word).toNat ∧ (0xFFFF#16 : Word).toNat < (0xFFFE#16 : Word).toNat + 2) ∧
    ¬((0xFFFE#16 : Word).toNat ≤ (0xFFFD#16 : Word).toNat) := by decide

/-- The same two bytes, written in either order. -/
theorem witness_CanonicalMemoriesAreEqual :
    Memory.wf (Memory.write (Memory.write [] 1#16 0x11#8) 2#16 0x22#8) = true ∧
    Memory.wf (Memory.write (Memory.write [] 2#16 0x22#8) 1#16 0x11#8) = true ∧
    ∀ b, Memory.read (Memory.write (Memory.write [] 1#16 0x11#8) 2#16 0x22#8) b =
      Memory.read (Memory.write (Memory.write [] 2#16 0x22#8) 1#16 0x11#8) b := by
  have h : Memory.write (Memory.write [] 1#16 0x11#8) 2#16 0x22#8 = Memory.write (Memory.write [] 2#16 0x22#8) 1#16 0x11#8 := by
    decide
  exact ⟨by decide, by decide, fun b => by rw [h]⟩

/-- An instruction whose bytes wrap from 0xFFFF to 0x0000. -/
theorem witness_StepRunsTheEncodedInstruction :
    (Instr.ldaAbs 0x1234#16).wf = true ∧ (start 0xFFFF#16 [0xAD#8, 0x34#8, 0x12#8]).run = .steady ∧
    ∀ k, k < (encode (.ldaAbs 0x1234#16)).length →
      (start 0xFFFF#16 [0xAD#8, 0x34#8, 0x12#8]).mem.read (0xFFFF#16 + BitVec.ofNat 16 k) =
        (encode (.ldaAbs 0x1234#16)).getD k 0#8 := by decide

theorem witness_UnknownOpcodeStep : (start 0x0200#16 [0xFF#8]).run = .steady ∧
    ((start 0x0200#16 [0xFF#8]).mem.read (start 0x0200#16 [0xFF#8]).pc).toNat ∈ undefinedOpcodes ∧
    ((start 0x0200#16 [0x02#8]).mem.read (start 0x0200#16 [0x02#8]).pc).toNat ∈ undefinedOpcodes := by decide

theorem witness_FatalIsAbsorbing : ({ State.reset with run := .fatal ⟨.unknownOpcode, 0x02#8, 0x0200#16⟩ } : State).run =
    .fatal ⟨.unknownOpcode, 0x02#8, 0x0200#16⟩ := rfl

/-- An Unbooted core, an image one byte too long, a booted core. -/
theorem witness_CallsOutsideTheLifecycle : beforeBoot.run = .unbooted ∧ 65536 < (List.replicate 65537 (0x00#8 : Byte)).length ∧
    State.reset.run ≠ .unbooted := by
  refine ⟨rfl, ?_, by decide⟩
  rw [List.length_replicate]; decide

theorem witness_SteadyStepsAnswer : (start 0x0200#16 [0xEA#8]).run = .steady := rfl

theorem witness_FatalErrorsArePrecise : ∃ t r, (start 0x0200#16 [0x02#8]).run = .steady ∧
    step (start 0x0200#16 [0x02#8]) = .next t ∧ t.run = .fatal r := ⟨_, _, rfl, rfl, rfl⟩

theorem witness_OnlyDecimalAddSubIsFatal : State.reset.run = .steady ∧
    ((Instr.sbcZp 0x10#8).mnemonic = .adc ∨ (Instr.sbcZp 0x10#8).mnemonic = .sbc) ∧
    ({ State.reset with p := 0x08#8 } : State).flag .d = true ∧
    ¬(((Instr.adcImm 0x10#8).mnemonic = .adc ∨ (Instr.adcImm 0x10#8).mnemonic = .sbc) ∧ State.reset.flag .d = true) ∧
    ¬((Instr.nop.mnemonic = .adc ∨ Instr.nop.mnemonic = .sbc) ∧ ({ State.reset with p := 0x08#8 } : State).flag .d = true) := by
  decide

theorem witness_AdcAddsWithCarry : State.reset.flag .d = false ∧ ({ State.reset with p := 0x08#8 } : State).flag .d = true := by decide

theorem witness_SbcSubtractsWithBorrow : ({ State.reset with p := 0xF7#8 } : State).flag .d = false ∧
    ({ State.reset with p := 0xFF#8 } : State).flag .d = true := by decide

theorem witness_BranchesFollowTheirFlag : (State.reset.flag .c = false ∧ ¬State.reset.flag .c = true) ∧
    (({ State.reset with p := 0xFF#8 } : State).flag .v = true ∧ ¬({ State.reset with p := 0xFF#8 } : State).flag .v = false) := by
  decide

/-- The longest ROM image, and both clauses of the memory it leaves. -/
theorem witness_BootSetsEveryPiece : beforeBoot.run = .unbooted ∧ (List.replicate 65536 (0x00#8 : Byte)).length ≤ 65536 ∧
    (0x0001#16 : Word).toNat < ([0xEA#8, 0xEB#8] : List Byte).length ∧
    ¬(0x0002#16 : Word).toNat < ([0xEA#8, 0xEB#8] : List Byte).length := by
  refine ⟨rfl, ?_, by decide, by decide⟩
  rw [List.length_replicate]

theorem witness_ResetIsBootOfAnEmptyRom : ({ State.reset with run := .unbooted } : State).run = .unbooted ∧
    ({ State.reset with run := .unbooted } : State).mem = [] := ⟨rfl, rfl⟩

theorem witness_IrqIsGatedByI : State.reset.run = .steady ∧ State.reset.flag .i = true ∧
    (start 0x0200#16 [0xEA#8]).run = .steady ∧ (start 0x0200#16 [0xEA#8]).flag .i = false := by decide

theorem witness_NmiIsNeverMasked : State.reset.run = .steady := rfl

/-- What the two statements ask of the state before a return: SP and the stacked bytes are as the entry left them. -/
def keepsStack (addresses : List Word) (t u : State) : Bool := u.sp == t.sp && addresses.all fun b => u.mem.read b == t.mem.read b

/-- After IRQ, NMI and BRK; the handler has changed X and a byte outside the stack. -/
theorem witness_InterruptsReturnExactly : (start 0x0200#16 [0x00#8]).run = .steady ∧ (start 0x0200#16 [0x00#8]).flag .i = false ∧
    ([interrupt, nonMaskableInterrupt, exec .brk] : List (State → Out)).all (fun call =>
      givesNext (call (start 0x0200#16 [0x00#8])) (fun t =>
        keepsStack [0x01FF#16, 0x01FE#16, 0x01FD#16] t { t with x := 0x55#8, mem := t.mem.write 0x0010#16 0x77#8 })) = true := by
  decide

/-- After JSR, PHA and PHP, likewise; SP 0x00, so the second byte of JSR wraps to 0x01FF. -/
theorem witness_CallsReturnExactly : ([exec (.jsr 0x1234#16), exec .pha, exec .php] : List (State → Out)).all (fun call =>
      givesNext (call State.reset) (fun t =>
        keepsStack [0x0100#16, 0x01FF#16] t { t with a := 0x55#8, mem := t.mem.write 0x0010#16 0x77#8 })) = true := by decide

/-- A first part that ends Steady, and one that ends Fatal. -/
theorem witness_RunIsRepeatedExecute :
    (∃ t, run 1 (start 0x0200#16 [0xEA#8]) = .next t ∧ t.run = .steady) ∧
    (∃ t r, run 1 (start 0x0200#16 [0x02#8]) = .next t ∧ t.run = .fatal r) := ⟨⟨_, rfl, rfl⟩, ⟨_, _, rfl, rfl⟩⟩

/-- A flag, the unused bit, and BRK. -/
theorem witness_FlagsHaveTheirWriters :
    (∃ t, exec .sec State.reset = .next t ∧ t.flag .c ≠ State.reset.flag .c) ∧
    (∃ t, exec .plp (start 0x0200#16 [] [(0x0100#16, 0x20#8)]) = .next t ∧ t.bit5 ≠ (start 0x0200#16 [] [(0x0100#16, 0x20#8)]).bit5) ∧
    (∃ t, exec .brk State.reset = .next t) :=
  ⟨⟨_, rfl, by decide⟩, ⟨_, rfl, by decide⟩, ⟨_, rfl⟩⟩

theorem witness_RegistersHaveTheirWriters :
    (∃ t, exec (.ldaImm 0x01#8) State.reset = .next t ∧ t.a ≠ State.reset.a) ∧
    (∃ t, exec .aslAcc { State.reset with a := 0x01#8 } = .next t ∧ t.a ≠ 0x01#8) ∧
    (∃ t, exec .inx State.reset = .next t ∧ t.x ≠ State.reset.x) ∧
    (∃ t, exec .dey State.reset = .next t ∧ t.y ≠ State.reset.y) ∧
    (∃ t, exec .pha State.reset = .next t ∧ t.sp ≠ State.reset.sp) :=
  ⟨⟨_, rfl, by decide⟩, ⟨_, rfl, by decide⟩, ⟨_, rfl, by decide⟩, ⟨_, rfl, by decide⟩, ⟨_, rfl, by decide⟩⟩

theorem witness_PcAdvancesByTheLength : ∃ t, exec (.adcAbs 0x1234#16) { State.reset with pc := 0xFFFE#16 } = .next t ∧
    controlTransfer (Instr.adcAbs 0x1234#16).mnemonic = false ∧ ({ State.reset with pc := 0xFFFE#16 } : State).flag .d = false :=
  ⟨_, rfl, by decide, by decide⟩

theorem witness_MemoryIsWrittenOnlyAtTheTargets : ∃ t, exec (.staZp 0xFF#8) State.reset = .next t ∧
    (0x0100#16 : Word) ∉ writeSet (.staZp 0xFF#8) State.reset ∧ (0x00FF#16 : Word) ∈ writeSet (.staZp 0xFF#8) State.reset :=
  ⟨_, rfl, by decide, by decide⟩

/-- An address the instruction neither reads nor writes, and one it writes without reading. -/
theorem witness_MemoryIsReadOnlyAtTheSources :
    (0x0100#16 : Word) ∉ readSet (.ldaIzy 0xFF#8) State.reset ∧ (0x0000#16 : Word) ∈ readSet (.ldaIzy 0xFF#8) State.reset ∧
    (0x0100#16 : Word) ∉ readSet .pha State.reset ∧ (0x0100#16 : Word) ∈ writeSet .pha State.reset := by decide

theorem witness_FlagsHaveTheirReaders : (Instr.cmpImm 0x01#8).mnemonic ∉ flagReaders .c ∧ Instr.plp.mnemonic ∉ flagReaders .z ∧
    Instr.rti.mnemonic ∉ flagReaders .i := by decide

/-- SED done, ADC next: an invariant state that steps into Fatal; the Fatal state has the invariant too. -/
theorem witness_StepKeepsTheInvariant : CoreInv { start 0x0200#16 [0x69#8, 0x01#8] with p := 0x08#8 } ∧
    (∃ t, step { start 0x0200#16 [0x69#8, 0x01#8] with p := 0x08#8 } = .next t) ∧
    CoreInv { start 0x0200#16 [0x69#8, 0x01#8] with p := 0x08#8, run := .fatal ⟨.unimplementedFeature, 0x69#8, 0x0200#16⟩ } := by
  refine ⟨⟨by decide, fun r h => by cases h⟩, ⟨_, rfl⟩, ⟨by decide, fun r h => ?_⟩⟩
  cases h
  exact ⟨rfl, by decide, Or.inr ⟨rfl, by decide, by decide⟩⟩

theorem witness_HostCallsKeepTheInvariant : CoreInv beforeBoot ∧ (∃ t, hostCall 0x5A#8 (.boot [0xEA#8]) beforeBoot = .next t) ∧
    CoreInv State.reset ∧ (∃ t, hostCall 0x5A#8 (.run 1) State.reset = .next t) ∧
    (∃ t, hostCall 0x5A#8 .nonMaskableInterrupt State.reset = .next t) := by
  refine ⟨⟨by decide, fun r h => by cases h⟩, ⟨_, rfl⟩, ⟨by decide, fun r h => by cases h⟩, ⟨_, rfl⟩, ⟨_, rfl⟩⟩

end Sys2Proof.Machine
end

section
/-! SUPPORT. The decoder's opcode byte, and what `exec` and `step` can do to Run and to the canonical form of memory. -/

namespace Sys2Proof.Machine

/-! ### The opcode byte of a decoded instruction (30_encoding.md R82, R84, R85) -/

/-- The instruction an opcode row completes with the two bytes after the opcode, low byte first (R82). -/
def completeRow (l h : Byte) : OpcodeRow → Instr
  | .f1 i => i
  | .f2 i => i l
  | .f3 i => i (wordOf h l)

/-- A fetched instruction is the row of the byte at PC, completed with the two bytes after it. -/
theorem fetchInstr_instr {s : State} {i : Instr} {rest : List Byte} (h : fetchInstr s = .instr i rest) :
    ∃ row, opcodeRow (s.mem.read s.pc) = some row ∧
      i = completeRow (s.mem.read (s.pc + 1#16)) (s.mem.read (s.pc + 2#16)) row := by
  unfold fetchInstr fetchBytes decode at h
  rcases hr : opcodeRow (s.mem.read s.pc) with _ | (i | i | i) <;> simp only [hr] at h <;> cases h <;> exact ⟨_, rfl, rfl⟩

/-- The map by opcode byte (R86) and the encoder by mnemonic (R84) agree on the opcode byte. -/
theorem opcodeByte_completeRow {op : Byte} {row : OpcodeRow} (l h : Byte) (hr : opcodeRow op = some row) :
    opcodeByte (completeRow l h row) = op := by
  unfold opcodeRow at hr
  split at hr <;> cases hr <;> next hop => exact BitVec.eq_of_toNat_eq hop.symm

/-- A fetched instruction's opcode byte is the byte at PC. -/
theorem opcodeByte_of_fetch {s : State} {i : Instr} {rest : List Byte} (h : fetchInstr s = .instr i rest) :
    opcodeByte i = s.mem.read s.pc := by
  obtain ⟨row, hrow, rfl⟩ := fetchInstr_instr h
  exact opcodeByte_completeRow _ _ hrow

/-- A byte that selects no row is one of the list of R85. -/
theorem mem_undefinedOpcodes {op : Byte} (h : opcodeRow op = none) : op.toNat ∈ undefinedOpcodes := by
  have onEveryByte : ∀ op : Byte, (opcodeRow op).isNone = true → op.toNat ∈ undefinedOpcodes := by decide
  exact onEveryByte op (by simp [h])

/-- The forms of ADC and SBC have the sixteen opcode bytes of R155 and R156. -/
theorem mem_addSubOpcodes {i : Instr} (h : i.mnemonic = .adc ∨ i.mnemonic = .sbc) : opcodeByte i ∈ addSubOpcodes := by
  cases i <;> simp_all [Instr.mnemonic, Instr.form, opcodeByte, encode, addSubOpcodes]

/-! ### What an instruction can do to Run and to the form of memory -/

/-- The outcome is a next state with the same Run, in canonical memory form if `s` is (log entry 10). -/
def KeepsRunAndForm (s : State) (out : Out) : Prop :=
  ∃ t, out = .next t ∧ t.run = s.run ∧ (s.mem.wf = true → t.mem.wf = true)

/-- An outcome that writes neither memory nor Run. -/
theorem keepsRunAndForm_of_eq {s t : State} (hrun : t.run = s.run) (hmem : t.mem = s.mem) : KeepsRunAndForm s (.next t) :=
  ⟨t, rfl, hrun, fun hwf => hmem ▸ hwf⟩

theorem store_keepsRunAndForm (r : Reg) (o : Operand) (s : State) : KeepsRunAndForm s (store r o s) :=
  ⟨_, rfl, by simp, State.wf_writeBack _ _⟩

theorem stepByte_keepsRunAndForm (f : Byte → Byte) (o : Operand) (s : State) : KeepsRunAndForm s (stepByte f o s) :=
  ⟨_, rfl, by simp, State.wf_writeBack _ _⟩

theorem shift_keepsRunAndForm (f : Byte → Shifted) (o : Operand) (s : State) : KeepsRunAndForm s (shift f o s) :=
  ⟨_, rfl, by simp, State.wf_writeBack _ _⟩

theorem branch_keepsRunAndForm (cond : Bool) (n : Byte) (s : State) : KeepsRunAndForm s (branch cond n s) := by
  cases cond <;> exact keepsRunAndForm_of_eq rfl rfl

/-- ADC and SBC raise the fatal error with D = 1 and keep Run and memory with D = 0 (42_alu.md R152). -/
theorem addToA_cases (f : Byte → Byte → Bool → AluSum) (op : Byte) (o : Operand) (s : State) :
    (s.flag .d = true ∧ addToA f op o s = .next (s.raiseFatal .unimplementedFeature op)) ∨
      KeepsRunAndForm s (addToA f op o s) := by
  unfold addToA
  cases s.flag .d
  · exact .inr (keepsRunAndForm_of_eq rfl rfl)
  · exact .inl ⟨rfl, rfl⟩

/-- Every instruction keeps Run and the form of memory, but ADC and SBC with D = 1, which raise the fatal error (R152). -/
theorem rule_cases (m : Mnemonic) (op : Byte) (o : Operand) (s : State) :
    ((m = .adc ∨ m = .sbc) ∧ s.flag .d = true ∧ rule m op o s = .next (s.raiseFatal .unimplementedFeature op)) ∨
      KeepsRunAndForm s (rule m op o s) := by
  cases m
  case adc => exact (addToA_cases addWithCarry op o s).imp_left fun h => ⟨.inl rfl, h⟩
  case sbc => exact (addToA_cases subWithBorrow op o s).imp_left fun h => ⟨.inr rfl, h⟩
  all_goals right
  all_goals simp only [rule]
  case sta | stx | sty => exact store_keepsRunAndForm _ o s
  case inc | dec => exact stepByte_keepsRunAndForm _ o s
  case asl | lsr | rol | ror => exact shift_keepsRunAndForm _ o s
  case bcc | bcs | beq | bmi | bne | bpl | bvc | bvs => exact branch_keepsRunAndForm _ _ s
  case pha | php => exact ⟨_, rfl, rfl, State.wf_push8 (s := s) _⟩
  case jsr => exact ⟨_, rfl, rfl, State.wf_push16 (s := s) _⟩
  case brk => exact ⟨_, rfl, rfl, State.wf_enter _ _ _⟩
  all_goals exact keepsRunAndForm_of_eq rfl rfl

theorem exec_cases (i : Instr) (s : State) :
    ((i.mnemonic = .adc ∨ i.mnemonic = .sbc) ∧ s.flag .d = true ∧
        exec i s = .next (s.raiseFatal .unimplementedFeature (opcodeByte i))) ∨
      KeepsRunAndForm s (exec i s) := by
  rw [exec_eq_rule]
  exact rule_cases _ _ _ s

/-! ### What a step can do (40_execution.md R111) -/

/-- A step answers a next state on a Steady core only, from the instruction at PC or from an undefined byte there. -/
theorem step_next {s t : State} (h : step s = .next t) :
    s.run = .steady ∧
      ((opcodeRow (s.mem.read s.pc) = none ∧ t = s.raiseFatal .unknownOpcode (s.mem.read s.pc)) ∨
        ∃ i rest, fetchInstr s = .instr i rest ∧ exec i s = .next t) := by
  cases hrun : s.run with
  | unbooted => simp [step_of_unbooted hrun] at h
  | fatal r => simp [step_of_fatal hrun] at h
  | steady =>
    refine ⟨rfl, ?_⟩
    cases hf : fetchInstr s with
    | instr i rest => exact .inr ⟨i, rest, rfl, step_of_fetch hrun hf ▸ h⟩
    | reject e =>
      rw [step_of_reject hrun hf, Host.Outcome.next.injEq] at h
      exact .inl ⟨(fetchInstr_reject hf).2, h.symm⟩

end Sys2Proof.Machine
end

section
/-! SUPPORT. The invariant of the core along every host call (00_scope.md R9). -/

namespace Sys2Proof.Machine

/-- A core that is not Fatal meets the invariant by the form of its memory alone. -/
theorem coreInv_of_steady {s : State} (hwf : s.mem.wf = true) (hrun : s.run = .steady) : CoreInv s :=
  ⟨hwf, fun r hr => by simp [hrun] at hr⟩

/-- A fatal error raised on a sound cause records it soundly: PC, memory and D stay as they were (60_exceptions.md R244). -/
theorem coreInv_raiseFatal {s : State} {cause : FatalCause} (hwf : s.mem.wf = true)
    (hcause : RecordSound s ⟨cause, s.mem.read s.pc, s.pc⟩) : CoreInv (s.raiseFatal cause (s.mem.read s.pc)) := by
  refine ⟨hwf, fun r hr => ?_⟩
  rw [State.run_raiseFatal, RunState.fatal.injEq] at hr
  subst hr
  exact hcause

/-- A state reached from a Steady core with Run and the form of memory kept. -/
theorem coreInv_of_keepsRunAndForm {s t : State} (hwf : s.mem.wf = true) (hrun : s.run = .steady)
    (h : KeepsRunAndForm s (.next t)) : CoreInv t := by
  obtain ⟨t', ht, hkeep, hform⟩ := h
  cases ht
  exact coreInv_of_steady (hform hwf) (hkeep.trans hrun)

/-- `execute()` keeps the invariant: it raises a fatal error only on an undefined byte or on ADC and SBC with D = 1, and the
opcode byte it records is the one at PC. -/
theorem coreInv_step {s t : State} (hs : CoreInv s) (h : step s = .next t) : CoreInv t := by
  obtain ⟨hwf, -⟩ := hs
  obtain ⟨hrun, ⟨hnone, rfl⟩ | ⟨i, rest, hf, hexec⟩⟩ := step_next h
  · exact coreInv_raiseFatal hwf ⟨rfl, rfl, .inl ⟨rfl, mem_undefinedOpcodes hnone⟩⟩
  · obtain ⟨hm, hd, hfatal⟩ | hkeep := exec_cases i s
    · rw [hexec, opcodeByte_of_fetch hf, Host.Outcome.next.injEq] at hfatal
      have hop : s.mem.read s.pc ∈ addSubOpcodes := opcodeByte_of_fetch hf ▸ mem_addSubOpcodes hm
      exact hfatal ▸ coreInv_raiseFatal hwf ⟨rfl, rfl, .inr ⟨rfl, hop, hd⟩⟩
    · exact coreInv_of_keepsRunAndForm hwf hrun (hexec ▸ hkeep)

/-- The steps of `run(n)`, by induction on their number. -/
theorem coreInv_runSteady {n : Nat} {s t : State} (hs : CoreInv s) (h : runSteady n s = .next t) : CoreInv t := by
  induction n generalizing s with
  | zero =>
    cases h
    exact hs
  | succ n ih =>
    unfold runSteady at h
    split at h
    case h_1 u hstep =>
      have hu := coreInv_step hs hstep
      split at h
      · cases h
        exact hu
      · exact ih hu h
    all_goals cases h

theorem coreInv_run {n : Nat} {s t : State} (hs : CoreInv s) (h : run n s = .next t) : CoreInv t := by
  unfold run at h
  split at h
  case h_3 => exact coreInv_runSteady hs h
  all_goals cases h

theorem coreInv_boot {spInit : Byte} {rom : List Byte} {s t : State} (hs : CoreInv s) (h : boot spInit rom s = .next t) :
    CoreInv t := by
  unfold boot at h
  split at h
  case h_3 =>
    split at h <;> cases h
    exact coreInv_of_steady (Memory.wf_map _ rom hs.1) rfl
  all_goals cases h

/-- The entry an interrupt makes on a Steady core (60_exceptions.md R245). -/
theorem coreInv_enter {s : State} (ret : Word) (b : Bool) (vec : Word) (hs : CoreInv s) (hrun : s.run = .steady) :
    CoreInv (s.enter ret b vec) :=
  coreInv_of_steady (State.wf_enter ret b vec hs.1) hrun

theorem coreInv_interrupt {s t : State} (hs : CoreInv s) (h : interrupt s = .next t) : CoreInv t := by
  unfold interrupt at h
  split at h
  case h_1 => cases h
  case h_2 =>
    cases h
    exact hs
  case h_3 hrun =>
    split at h <;> cases h
    · exact hs
    · exact coreInv_enter _ _ _ hs hrun

theorem coreInv_nonMaskableInterrupt {s t : State} (hs : CoreInv s) (h : nonMaskableInterrupt s = .next t) : CoreInv t := by
  unfold nonMaskableInterrupt at h
  split at h <;> cases h
  case h_2 => exact hs
  case h_3 hrun => exact coreInv_enter _ _ _ hs hrun

/-- Settles O58: call by call, `run(n)` by induction on its steps. -/
theorem hostCallsKeepTheInvariant : Obligations.HostCallsKeepTheInvariant := by
  intro spInit call s t hs h
  cases call with
  | boot rom => exact coreInv_boot hs h
  | execute => exact coreInv_step hs h
  | run n => exact coreInv_run hs h
  | interrupt => exact coreInv_interrupt hs h
  | nonMaskableInterrupt => exact coreInv_nonMaskableInterrupt hs h
  | dump =>
    cases h
    exact hs

end Sys2Proof.Machine
end

section
/-! SUPPORT. The frame of every instruction, composed from the frames of the state's operations: which pieces of the register
file and which bytes of memory an instruction can change (10_state.md R21 to R28, 40_execution.md R115). -/

namespace Sys2Proof.Machine

/-! ### The frames of the state's operations, and how they compose -/

/-- Two operations in a row change what the one or the other changes. -/
theorem Frame.trans {may₁ may₂ : List Piece} {stored₁ stored₂ : List Word} {s t u : State}
    (h₁ : Frame may₁ stored₁ s t) (h₂ : Frame may₂ stored₂ t u) : Frame (may₁ ++ may₂) (stored₁ ++ stored₂) s u := by
  constructor <;> simp +contextual [h₁.a, h₁.x, h₁.y, h₁.sp, h₁.flags, h₁.bit5, h₁.run, h₁.mem,
    h₂.a, h₂.x, h₂.y, h₂.sp, h₂.flags, h₂.bit5, h₂.run, h₂.mem]

theorem frame_refl (may : List Piece) (stored : List Word) (s : State) : Frame may stored s s := by
  constructor <;> intros <;> rfl

/-- The piece a named register is. -/
def Reg.piece : Reg → Piece
  | .a => .a
  | .x => .x
  | .y => .y
  | .sp => .sp

theorem frame_setReg (s : State) (r : Reg) (v : Byte) : Frame [r.piece] [] s (s.setReg r v) := by
  cases r <;> constructor <;> simp [State.setReg, Reg.piece]

theorem frame_setFlag (s : State) (f : PFlag) (b : Bool) : Frame [.flag f] [] s (s.setFlag f b) := by
  constructor <;> simp +contextual

theorem frame_setP (s : State) (v : Byte) : Frame allOfP [] s (s.setP v) := by
  constructor
  case flags =>
    intro f hf
    cases f <;> simp [allOfP] at hf
  all_goals simp [allOfP]

theorem frame_writeByte (s : State) (a : Word) (v : Byte) : Frame [] [a] s (s.setMem (s.mem.write a v)) := by
  constructor <;> simp +contextual [Memory.read_write_ne]

theorem frame_writeBack (s : State) (g : Target) (v : Byte) :
    Frame (targetPieces g) (targetAddresses g) s (s.writeBack g v) := by
  cases g with
  | nothing => exact frame_refl _ _ s
  | accumulator => exact frame_setReg s .a v
  | address a => exact frame_writeByte s a v

theorem frame_push8 (s : State) (v : Byte) : Frame [.sp] [stackAddress s.sp] s (s.push8 v) :=
  (frame_writeByte s _ v).trans (frame_setReg _ .sp (s.sp - 1#8))

theorem frame_push16 (s : State) (w : Word) :
    Frame [.sp, .sp] [stackAddress s.sp, stackAddress (s.sp - 1#8)] s (s.push16 w) :=
  (frame_push8 s (hi w)).trans (frame_push8 (s.push8 (hi w)) (lo w))

theorem frame_drop8 (s : State) : Frame [.sp] [] s s.drop8 := frame_setReg s .sp _

theorem frame_drop16 (s : State) : Frame [.sp, .sp] [] s s.drop16 := (frame_drop8 s).trans (frame_drop8 s.drop8)

section
variable {may : List Piece} {stored : List Word} {s t : State}

theorem Frame.setPc (h : Frame may stored s t) (v : Word) : Frame may stored s (t.setPc v) :=
  ⟨h.a, h.x, h.y, h.sp, h.flags, h.bit5, h.run, h.mem⟩

theorem Frame.advance (h : Frame may stored s t) (n : Nat) : Frame may stored s (t.advance n) := h.setPc _

theorem Frame.setFlag (h : Frame may stored s t) (f : PFlag) (b : Bool) :
    Frame (may ++ [.flag f]) stored s (t.setFlag f b) := by
  simpa only [List.append_nil] using h.trans (frame_setFlag t f b)

theorem Frame.setNZ (h : Frame may stored s t) (v : Byte) :
    Frame (may ++ [.flag .z] ++ [.flag .n]) stored s (t.setNZ v) :=
  (h.setFlag .z _).setFlag .n _

end

/-- BRK, IRQ and NMI change SP, B, I and the three bytes they push (60_exceptions.md R245). -/
theorem frame_enter (s : State) (ret : Word) (b : Bool) (vec : Word) :
    Frame [.sp, .sp, .sp, .flag .b, .flag .i] [stackAddress s.sp, stackAddress (s.sp - 1#8), stackAddress (s.sp - 2#8)] s
      (s.enter ret b vec) := by
  have pushes := (frame_push16 s ret).trans (frame_push8 (s.push16 ret) s.p)
  rw [State.sp_push16] at pushes
  exact ((pushes.setFlag .b b).setFlag .i true).setPc _

theorem frame_leave (s : State) : Frame (.sp :: .sp :: .sp :: allOfP) [] s s.leave :=
  (((frame_drop8 s).trans (frame_drop16 s.drop8)).trans (frame_setP _ s.top8)).setPc _

/-! ### The frames of the shared meanings -/

/-- The outcome is a next state in a frame of `s`. -/
def Framed (may : List Piece) (stored : List Word) (s : State) (out : Out) : Prop :=
  ∃ t, out = .next t ∧ Frame may stored s t

theorem load_framed (r : Reg) (o : Operand) (s : State) : Framed [r.piece, .flag .z, .flag .n] [] s (load r o s) :=
  ⟨_, rfl, ((frame_setReg _ _ _).setNZ _).advance _⟩

theorem store_framed (r : Reg) (o : Operand) (s : State) :
    Framed (targetPieces (target o s)) (targetAddresses (target o s)) s (store r o s) :=
  ⟨_, rfl, (frame_writeBack _ _ _).advance _⟩

theorem transfer_framed (src dst : Reg) (s : State) : Framed [dst.piece, .flag .z, .flag .n] [] s (transfer src dst s) :=
  ⟨_, rfl, ((frame_setReg _ _ _).setNZ _).advance _⟩

/-- ADC and SBC with D = 0; with D = 1 they raise the fatal error (42_alu.md R152). -/
theorem addToA_framed (f : Byte → Byte → Bool → AluSum) (op : Byte) (o : Operand) {s : State} (hd : s.flag .d = false) :
    Framed [.a, .flag .c, .flag .v, .flag .z, .flag .n] [] s (addToA f op o s) := by
  rw [addToA, hd]
  exact ⟨_, rfl, ((((frame_setReg _ .a _).setFlag _ _).setFlag _ _).setNZ _).advance _⟩

theorem logic_framed (f : Byte → Byte → Byte) (o : Operand) (s : State) :
    Framed [.a, .flag .z, .flag .n] [] s (logic f o s) :=
  ⟨_, rfl, ((frame_setReg _ .a _).setNZ _).advance _⟩

theorem compareReg_framed (r : Reg) (o : Operand) (s : State) :
    Framed [.flag .c, .flag .z, .flag .n] [] s (compareReg r o s) :=
  ⟨_, rfl, (((frame_setFlag _ _ _).setFlag _ _).setFlag _ _).advance _⟩

theorem bitTest_framed (o : Operand) (s : State) : Framed [.flag .z, .flag .v, .flag .n] [] s (bitTest o s) :=
  ⟨_, rfl, (((frame_setFlag _ _ _).setFlag _ _).setFlag _ _).advance _⟩

theorem stepByte_framed (f : Byte → Byte) (o : Operand) (s : State) :
    Framed (targetPieces (target o s) ++ [.flag .z] ++ [.flag .n]) (targetAddresses (target o s)) s (stepByte f o s) :=
  ⟨_, rfl, ((frame_writeBack _ _ _).setNZ _).advance _⟩

theorem stepReg_framed (r : Reg) (f : Byte → Byte) (s : State) :
    Framed [r.piece, .flag .z, .flag .n] [] s (stepReg r f s) :=
  ⟨_, rfl, ((frame_setReg _ _ _).setNZ _).advance _⟩

theorem shift_framed (f : Byte → Shifted) (o : Operand) (s : State) :
    Framed (targetPieces (target o s) ++ [.flag .c] ++ [.flag .z] ++ [.flag .n]) (targetAddresses (target o s)) s (shift f o s) :=
  ⟨_, rfl, (((frame_writeBack _ _ _).setFlag _ _).setNZ _).advance _⟩

theorem writeFlag_framed (f : PFlag) (b : Bool) (s : State) : Framed [.flag f] [] s (writeFlag f b s) :=
  ⟨_, rfl, (frame_setFlag _ _ _).advance _⟩

theorem branch_framed (cond : Bool) (n : Byte) (s : State) : Framed [] [] s (branch cond n s) := by
  cases cond <;> exact ⟨_, rfl, (frame_refl _ _ s).setPc _⟩

/-! ### The frame of an instruction -/

/-- The pieces an instruction may change: `g` is its EA, the accumulator for the accumulator mode (R21 to R25, R28). -/
def mayWrite (m : Mnemonic) (g : Target) : List Piece :=
  match m with
  | .lda | .txa | .tya | .and | .ora | .eor => [.a, .flag .z, .flag .n]
  | .ldx | .tax | .tsx | .inx | .dex => [.x, .flag .z, .flag .n]
  | .ldy | .tay | .iny | .dey => [.y, .flag .z, .flag .n]
  | .sta | .stx | .sty => targetPieces g
  | .inc | .dec => targetPieces g ++ [.flag .z] ++ [.flag .n]
  | .asl | .lsr | .rol | .ror => targetPieces g ++ [.flag .c] ++ [.flag .z] ++ [.flag .n]
  | .adc | .sbc => [.a, .flag .c, .flag .v, .flag .z, .flag .n]
  | .cmp | .cpx | .cpy => [.flag .c, .flag .z, .flag .n]
  | .bit => [.flag .z, .flag .v, .flag .n]
  | .clc | .sec => [.flag .c]
  | .cli | .sei => [.flag .i]
  | .cld | .sed => [.flag .d]
  | .clv => [.flag .v]
  | .nop | .jmp | .bcc | .bcs | .beq | .bmi | .bne | .bpl | .bvc | .bvs => []
  | .txs | .pha | .php => [.sp]
  | .pla => [.sp, .a, .flag .z, .flag .n]
  | .plp => .sp :: allOfP
  | .jsr | .rts => [.sp, .sp]
  | .brk => [.sp, .sp, .sp, .flag .b, .flag .i]
  | .rti => .sp :: .sp :: .sp :: allOfP

/-- Every instruction changes only its pieces and the bytes of its write set, but ADC and SBC with D = 1, which raise the fatal
error. -/
theorem exec_framed (i : Instr) (s : State) :
    exec i s = .next (s.raiseFatal .unimplementedFeature (opcodeByte i)) ∨
      Framed (mayWrite i.mnemonic (target (instrOperand i) s)) (writeSet i s) s (exec i s) := by
  rw [exec_eq_rule, writeSet]
  generalize i.mnemonic = m, instrOperand i = o, opcodeByte i = op
  cases m
  case adc | sbc =>
    cases hd : s.flag .d
    case false => exact .inr (addToA_framed _ op o hd)
    case true => exact .inl (if_pos hd)
  all_goals right
  all_goals simp only [rule, mayWrite, writesTarget]
  case lda | ldx | ldy => exact load_framed _ o s
  case sta | stx | sty => exact store_framed _ o s
  case tax | tay | txa | tya | tsx => exact transfer_framed _ _ s
  case txs => exact ⟨_, rfl, (frame_setReg s .sp _).advance _⟩
  case and | ora | eor => exact logic_framed _ o s
  case cmp | cpx | cpy => exact compareReg_framed _ o s
  case bit => exact bitTest_framed o s
  case inc | dec => exact stepByte_framed _ o s
  case inx | iny | dex | dey => exact stepReg_framed _ _ s
  case asl | lsr | rol | ror => exact shift_framed _ o s
  case clc | sec | cli | sei | cld | sed | clv => exact writeFlag_framed _ _ s
  case nop => exact ⟨_, rfl, (frame_refl _ _ s).advance _⟩
  case pha | php => exact ⟨_, rfl, (frame_push8 s _).advance _⟩
  case pla => exact ⟨_, rfl, (((frame_drop8 s).trans (frame_setReg _ .a _)).setNZ _).advance _⟩
  case plp => exact ⟨_, rfl, ((frame_drop8 s).trans (frame_setP _ _)).advance _⟩
  case jmp => exact ⟨_, rfl, (frame_refl _ _ s).setPc _⟩
  case jsr => exact ⟨_, rfl, (frame_push16 s _).setPc _⟩
  case rts => exact ⟨_, rfl, (frame_drop16 s).setPc _⟩
  case bcc | bcs | beq | bmi | bne | bpl | bvc | bvs => exact branch_framed _ _ s
  case brk => exact ⟨_, rfl, frame_enter s _ _ _⟩
  case rti => exact ⟨_, rfl, frame_leave s⟩

/-- What `exec_framed` says of a next state, for both its cases: Run is set aside, since the fatal error writes that alone. -/
theorem frame_of_exec {i : Instr} {s t : State} (h : exec i s = .next t) :
    Frame (mayWrite i.mnemonic (target (instrOperand i) s)) (writeSet i s) s (t.setRun s.run) := by
  obtain hfatal | ⟨u, hu, hframe⟩ := exec_framed i s
  · rw [h, Host.Outcome.next.injEq] at hfatal
    exact hfatal ▸ frame_refl _ _ s
  · rw [h, Host.Outcome.next.injEq] at hu
    subst hu
    exact ⟨hframe.a, hframe.x, hframe.y, hframe.sp, hframe.flags, hframe.bit5, rfl, hframe.mem⟩

end Sys2Proof.Machine
end

section
/-! SUPPORT. Who writes the flags and the registers (10_state.md R21 to R28), read off the frames. -/

namespace Sys2Proof.Machine

/-- Of the pieces, write-back reaches A only. -/
theorem not_mem_targetPieces {p : Piece} (h : p ≠ .a) (g : Target) : p ∉ targetPieces g := by
  cases g <;> simp [targetPieces, h]

theorem a_mem_targetPieces {g : Target} : .a ∈ targetPieces g ↔ g = .accumulator := by
  cases g <;> simp [targetPieces]

/-! ### Flags -/

/-- The flags in the frames are those of the "written by" column of R25: two finite tables, compared mnemonic by mnemonic. -/
theorem mem_flagWriters_of_mayWrite {m : Mnemonic} {g : Target} {f : PFlag} (h : .flag f ∈ mayWrite m g) :
    m ∈ flagWriters f := by
  cases m <;> cases f <;> simp_all [mayWrite, flagWriters, not_mem_targetPieces]

/-- Bit 5 is in the frames of the two instructions that write P whole (R27). -/
theorem plp_or_rti_of_bit5_mem_mayWrite {m : Mnemonic} {g : Target} (h : .bit5 ∈ mayWrite m g) : m = .plp ∨ m = .rti := by
  cases m <;> simp_all [mayWrite, not_mem_targetPieces]

/-- BRK leaves B and I set (45_control.md R222). -/
theorem flags_of_brk {i : Instr} {s t : State} (h : exec i s = .next t) (hm : i.mnemonic = .brk) :
    t.flag .b = true ∧ t.flag .i = true := by
  rw [exec_eq_rule, hm] at h
  cases h
  simp

/-- Settles O51: by contraposition, a flag outside the instruction's frame is as before. -/
theorem flagsHaveTheirWriters : Obligations.FlagsHaveTheirWriters := by
  intro i s t h
  have hframe := frame_of_exec h
  refine ⟨fun f hf => ?_, fun h5 => ?_, flags_of_brk h⟩
  · by_contra hm
    exact hf (hframe.flags f fun hw => hm (mem_flagWriters_of_mayWrite hw))
  · by_contra hm
    exact h5 (hframe.bit5 fun hw => hm (plp_or_rti_of_bit5_mem_mayWrite hw))

/-! ### Registers -/

/-- A is in the frame of its writers (R21), and of those that write back to the accumulator. -/
theorem mem_aWriters_of_mayWrite {m : Mnemonic} {g : Target} (h : .a ∈ mayWrite m g) :
    m ∈ [Mnemonic.lda, .pla, .txa, .tya, .adc, .sbc, .and, .ora, .eor] ∨ g = .accumulator := by
  cases m <;> simp_all [mayWrite, a_mem_targetPieces, allOfP]

theorem mem_xWriters_of_mayWrite {m : Mnemonic} {g : Target} (h : .x ∈ mayWrite m g) :
    m ∈ [Mnemonic.ldx, .tax, .tsx, .inx, .dex] := by
  cases m <;> simp_all [mayWrite, not_mem_targetPieces, allOfP]

theorem mem_yWriters_of_mayWrite {m : Mnemonic} {g : Target} (h : .y ∈ mayWrite m g) :
    m ∈ [Mnemonic.ldy, .tay, .iny, .dey] := by
  cases m <;> simp_all [mayWrite, not_mem_targetPieces, allOfP]

theorem mem_spWriters_of_mayWrite {m : Mnemonic} {g : Target} (h : .sp ∈ mayWrite m g) :
    m ∈ [Mnemonic.txs, .pha, .php, .pla, .plp, .jsr, .rts, .brk, .rti] := by
  cases m <;> simp_all [mayWrite, not_mem_targetPieces]

/-- The accumulator mode is that of ASL, LSR, ROL and ROR (30_encoding.md R84). -/
theorem shift_of_mode_accumulator {i : Instr} (h : i.mode = .accumulator) : i.mnemonic ∈ [Mnemonic.asl, .lsr, .rol, .ror] := by
  have hwf : i.mnemonic.modes.contains .accumulator = true := h ▸ instr_wf i
  generalize i.mnemonic = m at hwf
  cases m <;> simp_all [Mnemonic.modes]

/-- An instruction that writes back to the accumulator has its mode (40_execution.md R109). -/
theorem mode_of_target_accumulator {i : Instr} {s : State} (h : target (instrOperand i) s = .accumulator) :
    i.mode = .accumulator := by
  rw [← operandMode_instrOperand, target_eq_accumulator.1 h]
  rfl

/-- Settles O52: by contraposition, a register outside the instruction's frame is as before. -/
theorem registersHaveTheirWriters : Obligations.RegistersHaveTheirWriters := by
  intro i s t h
  have hframe := frame_of_exec h
  refine ⟨fun ha => ?_, fun hx => ?_, fun hy => ?_, fun hsp => ?_⟩
  · have hw : .a ∈ mayWrite i.mnemonic (target (instrOperand i) s) := by_contra fun hw => ha (hframe.a hw)
    exact (mem_aWriters_of_mayWrite hw).imp_right fun hg =>
      have hmode := mode_of_target_accumulator hg
      ⟨hmode, shift_of_mode_accumulator hmode⟩
  · exact mem_xWriters_of_mayWrite (by_contra fun hw => hx (hframe.x hw))
  · exact mem_yWriters_of_mayWrite (by_contra fun hw => hy (hframe.y hw))
  · exact mem_spWriters_of_mayWrite (by_contra fun hw => hsp (hframe.sp hw))

end Sys2Proof.Machine
end

section
/-! SUPPORT. Noninterference of the flags (10_state.md R25): two states that differ in one flag only stay so, operation by
operation, unless an operation reads that flag. -/

namespace Sys2Proof.Machine

/-- The two states differ in flag `f` at most. -/
structure AgreeBut (f : PFlag) (s t : State) : Prop where
  pc : t.pc = s.pc
  sp : t.sp = s.sp
  a : t.a = s.a
  x : t.x = s.x
  y : t.y = s.y
  mem : t.mem = s.mem
  run : t.run = s.run
  bit5 : t.bit5 = s.bit5
  flags : ∀ g, g ≠ f → t.flag g = s.flag g

/-- A state and the same state with flag `f` written. -/
theorem agreeBut_setFlag (s : State) (f : PFlag) (b : Bool) : AgreeBut f s (s.setFlag f b) := by
  constructor <;> simp +contextual

namespace AgreeBut

section
variable {f : PFlag} {s t : State} (h : AgreeBut f s t)
include h

/-! ### What is read agrees -/

theorem reg (r : Reg) : t.reg r = s.reg r := by
  cases r
  · exact h.a
  · exact h.x
  · exact h.y
  · exact h.sp

theorem target (o : Operand) : target o t = target o s := by
  cases o <;> simp only [Machine.target, h.x, h.y, h.mem]

theorem operandValue (o : Operand) : operandValue o t = operandValue o s := by
  unfold Machine.operandValue
  simp only [h.target, h.a, h.mem]

theorem top8 : t.top8 = s.top8 := by simp only [State.top8, h.sp, h.mem]

theorem top16 : t.top16 = s.top16 := by simp only [State.top16_eq, h.sp, h.mem]

/-! ### What is written agrees -/

theorem setPc (v : Word) : AgreeBut f (s.setPc v) (t.setPc v) :=
  { h with pc := rfl }

theorem advance (n : Nat) : AgreeBut f (s.advance n) (t.advance n) := by
  unfold State.advance
  rw [h.pc]
  exact h.setPc _

theorem setReg (r : Reg) (v : Byte) : AgreeBut f (s.setReg r v) (t.setReg r v) := by
  cases r
  · exact { h with a := rfl }
  · exact { h with x := rfl }
  · exact { h with y := rfl }
  · exact { h with sp := rfl }

theorem setP (v : Byte) : AgreeBut f (s.setP v) (t.setP v) :=
  { h with bit5 := rfl, flags := fun _ _ => rfl }

theorem setMem (m : Memory) : AgreeBut f (s.setMem m) (t.setMem m) :=
  { h with mem := rfl }

theorem setRun (r : RunState) : AgreeBut f (s.setRun r) (t.setRun r) :=
  { h with run := rfl }

theorem setFlag (g : PFlag) (b : Bool) : AgreeBut f (s.setFlag g b) (t.setFlag g b) where
  pc := h.pc
  sp := h.sp
  a := h.a
  x := h.x
  y := h.y
  mem := h.mem
  run := h.run
  bit5 := by simp [h.bit5]
  flags k hk := by simp [h.flags k hk]

theorem setNZ (v : Byte) : AgreeBut f (s.setNZ v) (t.setNZ v) := (h.setFlag .z _).setFlag .n _

theorem writeBack (g : Target) (v : Byte) : AgreeBut f (s.writeBack g v) (t.writeBack g v) := by
  cases g with
  | nothing => exact h
  | accumulator => exact h.setReg .a v
  | address a =>
    rw [State.writeBack_address, State.writeBack_address, h.mem]
    exact h.setMem _

theorem raiseFatal (cause : FatalCause) (op : Byte) : AgreeBut f (s.raiseFatal cause op) (t.raiseFatal cause op) := by
  unfold State.raiseFatal
  rw [h.pc]
  exact h.setRun _

theorem push8 (v : Byte) : AgreeBut f (s.push8 v) (t.push8 v) := by
  unfold State.push8
  rw [h.mem, h.sp]
  exact (h.setMem _).setReg .sp _

theorem push16 (w : Word) : AgreeBut f (s.push16 w) (t.push16 w) := (h.push8 _).push8 _

theorem drop8 : AgreeBut f s.drop8 t.drop8 := by
  unfold State.drop8
  rw [h.sp]
  exact h.setReg .sp _

theorem drop16 : AgreeBut f s.drop16 t.drop16 := h.drop8.drop8

theorem leave : AgreeBut f s.leave t.leave := by
  unfold State.leave
  rw [h.top8, h.drop8.top16]
  exact (h.drop8.drop16.setP _).setPc _

end

end AgreeBut

/-! ### The shared meanings -/

/-- Two outcomes are next states that differ in flag `f` at most. -/
def AgreeOut (f : PFlag) (out out' : Out) : Prop := ∃ t u, out = .next t ∧ out' = .next u ∧ AgreeBut f t u

theorem AgreeBut.next {f : PFlag} {s t : State} (h : AgreeBut f s t) : AgreeOut f (.next s) (.next t) := ⟨s, t, rfl, rfl, h⟩

section
variable {f : PFlag} {s t : State} (h : AgreeBut f s t)
include h

theorem load_agree (r : Reg) (o : Operand) : AgreeOut f (load r o s) (load r o t) := by
  unfold load
  rw [h.operandValue]
  exact (((h.setReg _ _).setNZ _).advance _).next

theorem store_agree (r : Reg) (o : Operand) : AgreeOut f (store r o s) (store r o t) := by
  unfold store
  rw [h.target, h.reg]
  exact ((h.writeBack _ _).advance _).next

theorem transfer_agree (src dst : Reg) : AgreeOut f (transfer src dst s) (transfer src dst t) := by
  unfold transfer
  rw [h.reg]
  exact (((h.setReg _ _).setNZ _).advance _).next

/-- ADC and SBC read C and D (42_alu.md R152, R155, R156). -/
theorem addToA_agree (add : Byte → Byte → Bool → AluSum) (op : Byte) (o : Operand) (hc : t.flag .c = s.flag .c)
    (hd : t.flag .d = s.flag .d) : AgreeOut f (addToA add op o s) (addToA add op o t) := by
  unfold addToA
  rw [h.operandValue, h.a, hc, hd]
  split
  · exact (h.raiseFatal _ _).next
  · exact (((((h.setReg .a _).setFlag _ _).setFlag _ _).setNZ _).advance _).next

theorem logic_agree (op : Byte → Byte → Byte) (o : Operand) : AgreeOut f (logic op o s) (logic op o t) := by
  unfold logic
  rw [h.operandValue, h.a]
  exact (((h.setReg .a _).setNZ _).advance _).next

theorem compareReg_agree (r : Reg) (o : Operand) : AgreeOut f (compareReg r o s) (compareReg r o t) := by
  unfold compareReg
  rw [h.operandValue, h.reg]
  exact ((((h.setFlag _ _).setFlag _ _).setFlag _ _).advance _).next

theorem bitTest_agree (o : Operand) : AgreeOut f (bitTest o s) (bitTest o t) := by
  unfold bitTest
  rw [h.operandValue, h.a]
  exact ((((h.setFlag _ _).setFlag _ _).setFlag _ _).advance _).next

theorem stepByte_agree (op : Byte → Byte) (o : Operand) : AgreeOut f (stepByte op o s) (stepByte op o t) := by
  unfold stepByte
  rw [h.operandValue, h.target]
  exact (((h.writeBack _ _).setNZ _).advance _).next

theorem stepReg_agree (r : Reg) (op : Byte → Byte) : AgreeOut f (stepReg r op s) (stepReg r op t) := by
  unfold stepReg
  rw [h.reg]
  exact (((h.setReg _ _).setNZ _).advance _).next

theorem shift_agree (op : Byte → Shifted) (o : Operand) : AgreeOut f (shift op o s) (shift op o t) := by
  unfold shift
  rw [h.operandValue, h.target]
  exact ((((h.writeBack _ _).setFlag _ _).setNZ _).advance _).next

theorem writeFlag_agree (g : PFlag) (b : Bool) : AgreeOut f (writeFlag g b s) (writeFlag g b t) :=
  ((h.setFlag _ _).advance _).next

theorem branch_agree (cond : Bool) (n : Byte) : AgreeOut f (branch cond n s) (branch cond n t) := by
  unfold branch
  rw [h.pc]
  split
  · exact (h.setPc _).next
  · exact (h.setPc _).next

/-! ### The instructions -/

/-- A flag that the mnemonic reads is not the one in which the states may differ. -/
theorem AgreeBut.flag_of_reader {m : Mnemonic} (hm : m ∉ flagReaders f) {g : PFlag} (hg : m ∈ flagReaders g) :
    t.flag g = s.flag g :=
  h.flags g fun hgf => hm (hgf ▸ hg)

/-- From states that differ in a flag the instruction does not read, it answers states that differ in that flag at most. -/
theorem exec_agree {i : Instr} (hm : i.mnemonic ∉ flagReaders f) : AgreeOut f (exec i s) (exec i t) := by
  rw [exec_eq_rule, exec_eq_rule]
  generalize i.mnemonic = m, instrOperand i = o, opcodeByte i = op at hm
  have reads {g : PFlag} (hg : m ∈ flagReaders g) : t.flag g = s.flag g := h.flag_of_reader hm hg
  cases m <;> simp only [rule]
  case lda | ldx | ldy => exact load_agree h _ o
  case sta | stx | sty => exact store_agree h _ o
  case tax | tay | txa | tya | tsx => exact transfer_agree h _ _
  case txs =>
    rw [h.x]
    exact ((h.setReg .sp _).advance 1).next
  case adc | sbc => exact addToA_agree h _ op o (reads (by decide)) (reads (by decide))
  case and | ora | eor => exact logic_agree h _ o
  case cmp | cpx | cpy => exact compareReg_agree h _ o
  case bit => exact bitTest_agree h o
  case inc | dec => exact stepByte_agree h _ o
  case inx | iny | dex | dey => exact stepReg_agree h _ _
  case asl | lsr => exact shift_agree h _ o
  case rol | ror =>
    rw [reads (g := .c) (by decide)]
    exact shift_agree h _ o
  case clc | sec | cli | sei | cld | sed | clv => exact writeFlag_agree h _ _
  case nop => exact (h.advance 1).next
  case pha =>
    rw [h.a]
    exact ((h.push8 _).advance 1).next
  case pla =>
    rw [h.top8]
    exact (((h.drop8.setReg .a _).setNZ _).advance 1).next
  case plp =>
    rw [h.top8]
    exact ((h.drop8.setP _).advance 1).next
  case jmp =>
    rw [targetAddress, targetAddress, h.target]
    exact (h.setPc _).next
  case jsr =>
    rw [targetAddress, targetAddress, h.target, h.pc]
    exact ((h.push16 _).setPc _).next
  case rts =>
    rw [h.top16]
    exact (h.drop16.setPc _).next
  case bcc | bcs =>
    rw [reads (g := .c) (by decide), h.operandValue]
    exact branch_agree h _ _
  case beq | bne =>
    rw [reads (g := .z) (by decide), h.operandValue]
    exact branch_agree h _ _
  case bmi | bpl =>
    rw [reads (g := .n) (by decide), h.operandValue]
    exact branch_agree h _ _
  case bvc | bvs =>
    rw [reads (g := .v) (by decide), h.operandValue]
    exact branch_agree h _ _
  case php | brk => exact absurd (by cases f <;> decide) hm
  case rti => exact h.leave.next

end

/-- Settles O56: the state with the flag changed differs from the first in that flag at most, and `exec` keeps that. -/
theorem flagsHaveTheirReaders : Obligations.FlagsHaveTheirReaders := by
  intro i s f b hm
  obtain ⟨t, u, ht, hu, h⟩ := exec_agree (agreeBut_setFlag s f b) hm
  exact ⟨t, u, ht, hu, h.pc, h.sp, h.a, h.x, h.y, h.mem, h.run, h.bit5, h.flags⟩

end Sys2Proof.Machine
end

section
/-! SUPPORT. The stack engine's round trips (20_memory.md R60 to R65) and the life cycle of the core: boot and the calls that are
refused (10_state.md R33, R34; 70_reset_and_hazards.md R270 to R273). -/

namespace Sys2Proof.Machine

/-! ### The stack engine -/

/-- Pop8 after Push8 returns the byte pushed: SP is back where the push wrote. -/
@[simp] theorem State.top8_push8 (s : State) (v : Byte) : (s.push8 v).top8 = v := by
  simp [State.top8]

/-- Pop16 after Push16 returns the word pushed. -/
@[simp] theorem State.top16_push16 (s : State) (w : Word) : (s.push16 w).top16 = w := by
  have hne := stackAddress_ne_pred s.sp
  have hlow : s.sp - 2#8 + 1#8 = s.sp - 1#8 := by bv_omega
  simp [State.top16_eq, hlow, Memory.read_write_ne, hne]

/-- Settles O10, from the bytes a push writes and the distinctness of consecutive stack bytes. -/
theorem stackRoundTrips : Obligations.StackRoundTrips := by
  intro s v w
  have hne := stackAddress_ne_pred s.sp
  refine ⟨by simp, ?_, rfl, ?_, by simp, by simp, ?_, by simp, by simp, by simp, toNat_stackAddress s.sp⟩
  · rw [State.sp_push8]
    bv_omega
  · rw [State.sp_drop8]
    bv_omega
  · simp [Memory.read_write_ne, hne]

/-! ### Loading an image (20_memory.md R54) -/

/-- `map` copies an image that fits above its base and touches no other byte. -/
theorem Memory.read_map (m : Memory) (base : Word) (source : List Byte) (hfit : base.toNat + source.length ≤ 65536) (b : Word) :
    (m.map base source).read b =
      if base.toNat ≤ b.toNat ∧ b.toNat < base.toNat + source.length then source.getD (b.toNat - base.toNat) 0#8
      else m.read b := by
  induction source generalizing m base with
  | nil =>
    rw [Memory.map, if_neg (by simp)]
  | cons v source ih =>
    rw [List.length_cons] at hfit ⊢
    have hrest : (m.map base (v :: source)).read b =
        if base.toNat + 1 ≤ b.toNat ∧ b.toNat < base.toNat + 1 + source.length then
          source.getD (b.toNat - (base.toNat + 1)) 0#8
        else (m.write base v).read b := by
      rw [Memory.map]
      cases source with
      | nil => rw [Memory.map, if_neg (by simp)]
      | cons v' source =>
        have hnext : (base + 1#16).toNat = base.toNat + 1 := by
          rw [List.length_cons] at hfit
          bv_omega
        rw [ih (m.write base v) (base + 1#16) (by omega), hnext]
    rw [hrest, Memory.read_write]
    by_cases hb : b = base
    · simp [hb]
    · have hne : b.toNat ≠ base.toNat := fun h => hb (BitVec.eq_of_toNat_eq h)
      rw [if_neg hb]
      by_cases hin : base.toNat + 1 ≤ b.toNat ∧ b.toNat < base.toNat + 1 + source.length
      · have hindex : b.toNat - base.toNat = b.toNat - (base.toNat + 1) + 1 := by omega
        rw [if_pos hin, if_pos (by omega), hindex, List.getD_cons_succ]
      · rw [if_neg hin, if_neg (by omega)]

theorem Memory.toNat_readWord (m : Memory) (a : Word) : (m.readWord a).toNat = twoBytes m (a + 1#16) a :=
  toNat_wordOf _ _

/-! ### Boot -/

/-- The state boot leaves when it answers one (R270). -/
def bootState (spInit : Byte) (rom : List Byte) (s : State) : State where
  pc := (s.mem.map Config.programBase rom).readWord Config.resetVector
  sp := spInit
  a := 0x00#8
  x := 0x00#8
  y := 0x00#8
  p := 0x04#8
  mem := s.mem.map Config.programBase rom
  run := .steady

theorem boot_of_fits {s : State} {rom : List Byte} (spInit : Byte) (h : s.run = .unbooted) (hfit : rom.length ≤ 65536) :
    boot spInit rom s = .next (bootState spInit rom s) := by
  rw [boot, h]
  exact if_neg (Nat.not_lt.2 hfit)

theorem boot_of_too_long {s : State} {rom : List Byte} (spInit : Byte) (h : s.run = .unbooted) (hlong : 65536 < rom.length) :
    boot spInit rom s = .fault .malformedRom := by
  rw [boot, h]
  exact if_pos hlong

theorem boot_of_booted {s : State} (spInit : Byte) (rom : List Byte) (h : s.run ≠ .unbooted) :
    boot spInit rom s = .refused .bootTwice := by
  unfold boot
  split
  case h_3 hrun => exact absurd hrun h
  all_goals rfl

/-- Settles O44: the pieces of `bootState`, memory by the law of `map`. -/
theorem bootSetsEveryPiece : Obligations.BootSetsEveryPiece := by
  intro s spInit rom hrun hfit
  have hi : (0x04#8).getLsbD PFlag.i.bit = true := by decide
  refine ⟨_, boot_of_fits spInit hrun hfit, rfl, rfl, rfl, rfl, rfl, hi, rfl, Memory.toNat_readWord _ _, fun b => ?_⟩
  have hbase : Config.programBase.toNat = 0 := rfl
  have hmap := Memory.read_map s.mem Config.programBase rom (by omega) b
  simpa [hbase, bootState] using hmap

/-- Settles O45: with nothing listed and nothing loaded, `bootState` is `State.reset`. -/
theorem resetIsBootOfAnEmptyRom : Obligations.ResetIsBootOfAnEmptyRom := by
  intro s hrun hmem
  have hreset : bootState Config.spInit [] s = State.reset := by
    rw [bootState, hmem]
    rfl
  exact ⟨hreset ▸ boot_of_fits _ hrun (Nat.zero_le _), rfl, rfl, rfl, rfl, rfl, rfl⟩

/-- Settles O59: the memory lists nothing and Run is Steady. -/
theorem resetHasTheInvariant : Obligations.ResetHasTheInvariant := coreInv_of_steady wf_reset rfl

/-! ### The calls outside the life cycle -/

/-- Before boot every call but boot is refused (R34). -/
theorem calls_of_unbooted {s : State} (n : Nat) (h : s.run = .unbooted) :
    step s = .refused .unbooted ∧ run n s = .refused .unbooted ∧ interrupt s = .refused .unbooted ∧
      nonMaskableInterrupt s = .refused .unbooted := by
  simp [step_of_unbooted, run, interrupt, nonMaskableInterrupt, h, unbootedStep]

/-- Settles O16, by the execution state the call finds. -/
theorem callsOutsideTheLifecycle : Obligations.CallsOutsideTheLifecycle :=
  fun _ spInit rom n => ⟨calls_of_unbooted n, boot_of_too_long spInit, boot_of_booted spInit rom⟩

end Sys2Proof.Machine
end

section
/-! SUPPORT. The accessors of memory (20_memory.md R50 to R54): the bytes and the word a 16-bit write leaves, and that the
canonical form is determined by what reads answer (log entry 10). -/

namespace Sys2Proof.Machine

/-! ### Word accesses (20_memory.md R52, R53) -/

theorem toNat_lo (w : Word) : (lo w).toNat = w.toNat % 256 := by
  simp [lo]

theorem toNat_hi (w : Word) : (hi w).toNat = w.toNat / 256 := by
  simp [hi]
  omega

/-- The address of the high byte differs from that of the low byte, at 0xFFFF too. -/
theorem ne_next_address (a : Word) : a ≠ a + 1#16 := by
  bv_omega

@[simp] theorem Memory.read_writeWord_low (m : Memory) (a v : Word) : (m.writeWord a v).read a = lo v := by
  rw [Memory.writeWord, Memory.read_write_ne _ _ (ne_next_address a), Memory.read_write_same]

@[simp] theorem Memory.read_writeWord_high (m : Memory) (a v : Word) : (m.writeWord a v).read (a + 1#16) = hi v :=
  Memory.read_write_same _ _ _

theorem Memory.read_writeWord_ne (m : Memory) {a b : Word} (v : Word) (hlow : b ≠ a) (hhigh : b ≠ a + 1#16) :
    (m.writeWord a v).read b = m.read b := by
  rw [Memory.writeWord, Memory.read_write_ne _ _ hhigh, Memory.read_write_ne _ _ hlow]

/-- R53: a word read where it was written, for every address and word. -/
@[simp] theorem Memory.readWord_writeWord (m : Memory) (a v : Word) : (m.writeWord a v).readWord a = v := by
  simp [Memory.readWord]

/-- The next address, in the numbers of the spec. -/
theorem ofNat_next_address (a : Word) : BitVec.ofNat 16 ((a.toNat + 1) % 65536) = a + 1#16 := by
  apply BitVec.eq_of_toNat_eq
  simp

/-- Settles O9, from the reads of the two bytes a word write leaves. -/
theorem wordAccessesAreLittleEndian : Obligations.WordAccessesAreLittleEndian := by
  intro m a v
  refine ⟨?_, ?_, ?_, fun b => m.read_writeWord_ne v, m.readWord_writeWord a v⟩
  · rw [ofNat_next_address, Memory.toNat_readWord]
  · rw [Memory.read_writeWord_low, toNat_lo]
  · rw [Memory.read_writeWord_high, toNat_hi]

/-- Settles O11: the law of `map`. -/
theorem mapCopiesTheSource : Obligations.MapCopiesTheSource :=
  Memory.read_map

/-! ### The canonical form (log entry 10) -/

/-- The order of the cells in a canonical memory. -/
def KeyLt (c d : Host.Cell) : Prop := c.1 < d.1

/-- The canonical form, cell by cell and as an order of the whole list. -/
theorem Memory.wf_iff (m : Memory) :
    m.wf = true ↔ (∀ c ∈ m, c.1 < Config.memorySize ∧ c.2 ≠ Config.unlistedByte) ∧ m.Pairwise KeyLt := by
  induction m with
  | nil => simp [Memory.wf]
  | cons c m ih =>
    rw [Memory.wf_cons, ih, List.forall_mem_cons, List.pairwise_cons]
    unfold KeyLt
    tauto

/-- The byte at a key, when it is not the unlisted one, is that of a cell. -/
theorem mem_of_readCell_ne {m : List Host.Cell} {k : Nat} (h : readCell m k ≠ Config.unlistedByte) :
    (k, readCell m k) ∈ m := by
  induction m with
  | nil => exact absurd rfl h
  | cons c m ih =>
    unfold readCell at h ⊢
    split
    · next hk =>
      subst hk
      exact List.mem_cons_self
    · next hk =>
      rw [if_neg hk] at h
      exact List.mem_cons_of_mem c (ih h)

/-- With rising keys no cell hides another. -/
theorem readCell_of_mem {m : List Host.Cell} {c : Host.Cell} (hm : m.Pairwise KeyLt) (hc : c ∈ m) :
    readCell m c.1 = c.2 := by
  induction hm with
  | nil => cases hc
  | @cons d m hd _ ih =>
    unfold readCell
    rcases List.mem_cons.1 hc with rfl | hc
    · exact if_pos rfl
    · rw [if_neg (Nat.ne_of_lt (hd c hc)), ih hc]

/-- The cells of a canonical memory are the addresses that read as another byte than the unlisted one. -/
theorem Memory.mem_iff_read {m : Memory} (h : m.wf = true) (c : Host.Cell) :
    c ∈ m ↔ c.1 < Config.memorySize ∧ c.2 ≠ Config.unlistedByte ∧ m.read (BitVec.ofNat 16 c.1) = c.2 := by
  obtain ⟨hcells, hrising⟩ := m.wf_iff.1 h
  have hread (hlt : c.1 < Config.memorySize) : m.read (BitVec.ofNat 16 c.1) = readCell m c.1 :=
    congrArg (readCell m) (Nat.mod_eq_of_lt hlt)
  constructor
  · intro hc
    obtain ⟨hlt, hne⟩ := hcells c hc
    exact ⟨hlt, hne, (hread hlt).trans (readCell_of_mem hrising hc)⟩
  · rintro ⟨hlt, hne, hc⟩
    rw [hread hlt] at hc
    have hmem := mem_of_readCell_ne (hc ▸ hne)
    rwa [hc] at hmem

/-- Settles O12: reads determine the cells, and the rising keys their order. -/
theorem canonicalMemoriesAreEqual : Obligations.CanonicalMemoriesAreEqual := by
  intro m m' hm hm' hread
  have hasymm : Std.Asymm KeyLt := ⟨fun _ _ => Nat.lt_asymm⟩
  refine (m.wf_iff.1 hm).2.eq_of_mem_iff (m'.wf_iff.1 hm').2 fun c => ?_
  rw [Memory.mem_iff_read hm, Memory.mem_iff_read hm', hread]

end Sys2Proof.Machine
end

section
/-! SUPPORT. Decoding against encoding (30_encoding.md R80 to R86): the row of an opcode byte stands between the two, so that
each direction is one fact about rows. -/

namespace Sys2Proof.Machine

/-! ### Decoder and encoder, row by row (R82, R84, R86) -/

/-- The bytes a row's format takes: the opcode byte and the operand bytes, low byte first (R82). -/
def rowBytes (op l h : Byte) : OpcodeRow → List Byte
  | .f1 _ => [op]
  | .f2 _ => [op, l]
  | .f3 _ => [op, l, h]

/-- The decoder reads the row of the first byte, as many operand bytes as its format has, and the instruction they complete. -/
theorem decode_eq_instr_iff {bytes rest : List Byte} {i : Instr} :
    decode bytes = .instr i rest ↔ ∃ op row l h,
      opcodeRow op = some row ∧ bytes = rowBytes op l h row ++ rest ∧ i = completeRow l h row := by
  constructor
  · intro hd
    match bytes with
    | [] => cases hd
    | op :: operands =>
      simp only [decode] at hd
      split at hd <;> cases hd
      case h_2 i hrow => exact ⟨op, _, 0#8, 0#8, hrow, rfl, rfl⟩
      case h_3 i n hrow => exact ⟨op, _, n, 0#8, hrow, rfl, rfl⟩
      case h_4 i l h hrow => exact ⟨op, _, l, h, hrow, rfl, rfl⟩
  · rintro ⟨op, row, l, h, hrow, rfl, rfl⟩
    cases row <;> simp [decode, rowBytes, completeRow, hrow]

/-- The encoder writes the bytes of a row for the instruction they complete. -/
theorem encode_completeRow {op : Byte} {row : OpcodeRow} (l h : Byte) (hrow : opcodeRow op = some row) :
    encode (completeRow l h row) = rowBytes op l h row := by
  have hop : opcodeByte (completeRow l h row) = op := opcodeByte_completeRow l h hrow
  unfold opcodeRow at hrow
  split at hrow <;> cases hrow <;> subst hop <;> simp [completeRow, encode, rowBytes, opcodeByte]

/-- Every instruction is the row its first byte selects, completed with its other bytes. (The first conjunct makes `op` a
literal, on which the map is cheap to evaluate.) -/
theorem exists_opcodeRow (i : Instr) : ∃ op row, (encode i).head? = some op ∧ opcodeRow op = some row ∧
    i = completeRow ((encode i).getD 1 0#8) ((encode i).getD 2 0#8) row := by
  cases i <;> exact ⟨_, _, rfl, rfl, by simp [encode, completeRow]⟩

/-- Settles O1: both sides say that the bytes are those of a row and `i` is what they complete. -/
theorem decodeExactlyEncode : Obligations.DecodeExactlyEncode := by
  intro bytes rest i
  rw [decode_eq_instr_iff]
  constructor
  · rintro ⟨op, row, l, h, hrow, rfl, rfl⟩
    rw [encode_completeRow l h hrow]
  · rintro rfl
    obtain ⟨op, row, -, hrow, hi⟩ := exists_opcodeRow i
    refine ⟨op, row, _, _, hrow, ?_, hi⟩
    rw [← encode_completeRow _ _ hrow, ← hi]

/-! ### What an opcode byte selects (R80, R84, R85) -/

/-- A byte selects no row exactly when it is on the list of R85. -/
theorem opcodeRow_eq_none_iff (op : Byte) : opcodeRow op = none ↔ op.toNat ∈ undefinedOpcodes := by
  have onEveryByte : ∀ op : Byte, op.toNat ∈ undefinedOpcodes → (opcodeRow op).isNone = true := by decide
  exact ⟨mem_undefinedOpcodes, fun hmem => by simpa using onEveryByte op hmem⟩

/-- The decoder answers `undefinedOpcode` exactly on a byte that selects no row, whatever follows it. -/
theorem decode_eq_undefinedOpcode_iff (op : Byte) (rest : List Byte) :
    decode (op :: rest) = .reject (.undefinedOpcode op) ↔ opcodeRow op = none := by
  simp only [decode]
  split <;> simp_all

/-- The form of a byte is that of its row, completed with any operand. -/
theorem opcodeForm_eq (op : Byte) : opcodeForm op = (opcodeRow op).map fun row => (completeRow 0#8 0#8 row).form := by
  unfold opcodeForm
  rcases opcodeRow op with _ | (i | i | i) <;> rfl

/-- A form an opcode byte selects is defined (R84). -/
theorem wf_of_opcodeForm {op : Byte} {f : Form} (h : opcodeForm op = some f) : f.wf = true := by
  rw [opcodeForm_eq, Option.map_eq_some_iff] at h
  obtain ⟨row, -, rfl⟩ := h
  exact instr_wf _

/-- No mnemonic has the mode `none` (R80, R84). -/
theorem mode_ne_none_of_wf {f : Form} (h : f.wf = true) : f.mode ≠ .none := by
  obtain ⟨m, mode⟩ := f
  rintro rfl
  cases m <;> cases h

/-- The mode `none` is that of the bytes without a form (R80). -/
theorem addrMode_eq_none_iff (op : Byte) : addrMode op = .none ↔ opcodeForm op = none := by
  unfold addrMode
  cases hf : opcodeForm op with
  | none => simp
  | some f => simpa using mode_ne_none_of_wf (wf_of_opcodeForm hf)

/-- Settles O3: all three answers are those of a byte that selects no row. -/
theorem undefinedBytesAreRejected : Obligations.UndefinedBytesAreRejected := by
  refine ⟨rfl, fun op rest => ?_⟩
  have hform : opcodeForm op = none ↔ op.toNat ∈ undefinedOpcodes := by
    rw [opcodeForm_eq, Option.map_eq_none_iff, opcodeRow_eq_none_iff]
  refine ⟨?_, (addrMode_eq_none_iff op).trans hform, hform⟩
  rw [decode_eq_undefinedOpcode_iff, opcodeRow_eq_none_iff]

/-! ### The opcode byte of a form (R84) -/

/-- The opcode byte from which a mnemonic's row of R84 counts: that of its only cell, or the `aaa` and `cc` bits of
`aaabbbcc` (the note after R86). -/
def opcodeBase : Mnemonic → Byte
  | .ora => 0x01#8 | .and => 0x21#8 | .eor => 0x41#8 | .adc => 0x61#8 | .sta => 0x81#8 | .lda => 0xA1#8 | .cmp => 0xC1#8
  | .sbc => 0xE1#8 | .asl => 0x02#8 | .rol => 0x22#8 | .lsr => 0x42#8 | .ror => 0x62#8 | .stx => 0x82#8 | .ldx => 0xA2#8
  | .dec => 0xC2#8 | .inc => 0xE2#8 | .bit => 0x20#8 | .jmp => 0x40#8 | .sty => 0x80#8 | .ldy => 0xA0#8 | .cpy => 0xC0#8
  | .cpx => 0xE0#8 | .jsr => 0x20#8 | .brk => 0x00#8 | .rti => 0x40#8 | .rts => 0x60#8
  | .bpl => 0x10#8 | .bmi => 0x30#8 | .bvc => 0x50#8 | .bvs => 0x70#8 | .bcc => 0x90#8 | .bcs => 0xB0#8 | .bne => 0xD0#8
  | .beq => 0xF0#8 | .php => 0x08#8 | .plp => 0x28#8 | .pha => 0x48#8 | .pla => 0x68#8 | .dey => 0x88#8 | .tay => 0xA8#8
  | .iny => 0xC8#8 | .inx => 0xE8#8 | .clc => 0x18#8 | .sec => 0x38#8 | .cli => 0x58#8 | .sei => 0x78#8 | .tya => 0x98#8
  | .clv => 0xB8#8 | .cld => 0xD8#8 | .sed => 0xF8#8 | .txa => 0x8A#8 | .txs => 0x9A#8 | .tax => 0xAA#8 | .tsx => 0xBA#8
  | .dex => 0xCA#8 | .nop => 0xEA#8

/-- What a mode adds to the base: its `bbb` bits, which for the immediate mode depend on the column `cc`. -/
def opcodeOffset (base : Byte) : AddrMode → Byte
  | .implied | .relative | .indirectX | .none => 0x00#8
  | .immediate => if base.getLsbD 0 then 0x08#8 else 0x00#8
  | .zeroPage => 0x04#8
  | .accumulator => 0x08#8
  | .absolute => 0x0C#8
  | .indirectY => 0x10#8
  | .zeroPageX | .zeroPageY => 0x14#8
  | .absoluteY => 0x18#8
  | .absoluteX => 0x1C#8
  | .indirect => 0x2C#8

/-- The opcode byte of a form, the cell of R84; JSR and LDX absolute Y lie outside the pattern of the modes. -/
def formOpcode : Form → Byte
  | ⟨.jsr, _⟩ => opcodeBase .jsr
  | ⟨.ldx, .absoluteY⟩ => opcodeBase .ldx + 0x1C#8
  | ⟨m, mode⟩ => opcodeBase m + opcodeOffset (opcodeBase m) mode

/-- The encoder writes a form's opcode byte for every instruction of the form, whatever its operand. -/
theorem formOpcode_form (i : Instr) : formOpcode i.form = opcodeByte i := by cases i <;> rfl

/-- The map by opcode byte selects every form of R84 on that form's byte. -/
theorem opcodeForm_formOpcode {f : Form} (h : f.wf = true) : opcodeForm (formOpcode f) = some f := by
  obtain ⟨m, mode⟩ := f
  have onEveryMode : ∀ mode ∈ m.modes, opcodeForm (formOpcode ⟨m, mode⟩) = some ⟨m, mode⟩ := by cases m <;> decide
  exact onEveryMode mode (by simpa [Form.wf] using h)

/-- A byte selects a form exactly when the form is defined and the byte is the form's. -/
theorem opcodeForm_eq_some_iff {op : Byte} {f : Form} : opcodeForm op = some f ↔ f.wf = true ∧ op = formOpcode f := by
  refine ⟨fun h => ⟨wf_of_opcodeForm h, ?_⟩, fun ⟨hwf, hop⟩ => hop ▸ opcodeForm_formOpcode hwf⟩
  rw [opcodeForm_eq, Option.map_eq_some_iff] at h
  obtain ⟨row, hrow, rfl⟩ := h
  rw [formOpcode_form, opcodeByte_completeRow _ _ hrow]

/-- Settles O4: the one byte of a defined form is its `formOpcode`. -/
theorem formsHaveOneOpcode : Obligations.FormsHaveOneOpcode := by
  simp only [Obligations.FormsHaveOneOpcode, opcodeForm_eq_some_iff]
  constructor
  · exact fun f => ⟨fun hwf => ⟨formOpcode f, hwf, rfl⟩, fun ⟨_, hwf, _⟩ => hwf⟩
  · rintro op op' f ⟨-, hop⟩ ⟨-, hop'⟩
    exact hop.trans hop'.symm

/-! ### Words written out from the tables (R82, R84) -/

/-- Settles O2, from O1: each sequence is its instruction's encoding. -/
theorem encodedWordsDecode : Obligations.EncodedWordsDecode := by
  simp only [Obligations.EncodedWordsDecode, decodeExactlyEncode _ _ _, List.append_nil]
  decide

end Sys2Proof.Machine
end

section
/-! SUPPORT. What an instruction reads and writes in memory (40_execution.md R115): the writes are read off the frames; for the
reads, two runs from states that differ in one byte only are compared operation by operation. -/

namespace Sys2Proof.Machine

/-- Settles O54: the bytes outside the write set are in every instruction's frame, and the fatal error writes none. -/
theorem memoryIsWrittenOnlyAtTheTargets : Obligations.MemoryIsWrittenOnlyAtTheTargets :=
  fun _ _ _ h => (frame_of_exec h).mem

/-! ### Memories that differ in one byte -/

/-- The memories read alike everywhere but at `b`, and there too once both have been written at it: `stored` lists the
addresses written. -/
def SameBut (b : Word) (stored : List Word) (m m' : Memory) : Prop :=
  ∀ c, c ≠ b ∨ c ∈ stored → m'.read c = m.read c

theorem sameBut_write (m : Memory) (b : Word) (v : Byte) : SameBut b [] m (m.write b v) := by
  rintro c (hc | hc)
  · exact Memory.read_write_ne m v hc
  · cases hc

section
variable {b : Word} {stored : List Word} {m m' : Memory} (h : SameBut b stored m m')
include h

theorem SameBut.read {c : Word} (hc : b ≠ c) : m'.read c = m.read c := h c (.inl hc.symm)

/-- The same byte written to both makes them agree at its address. -/
theorem SameBut.write (a : Word) (v : Byte) : SameBut b (stored ++ [a]) (m.write a v) (m'.write a v) := by
  intro c hc
  rw [Memory.read_write, Memory.read_write]
  split
  · rfl
  · next hca => exact h c (by simpa [hca] using hc)

theorem SameBut.readWord {a : Word} (ha : b ∉ [a, a + 1#16]) : m'.readWord a = m.readWord a := by
  obtain ⟨hlow, hhigh⟩ : b ≠ a ∧ b ≠ a + 1#16 := by simpa using ha
  rw [Memory.readWord, Memory.readWord, h.read hlow, h.read hhigh]

theorem SameBut.readZeroPageWord {z : Byte} (hz : b ∉ [zext16 z, zext16 (z + 1#8)]) :
    m'.readZeroPageWord z = m.readZeroPageWord z := by
  obtain ⟨hlow, hhigh⟩ : b ≠ zext16 z ∧ b ≠ zext16 (z + 1#8) := by simpa using hz
  rw [Memory.readZeroPageWord, Memory.readZeroPageWord, h.read hlow, h.read hhigh]

end

/-- An operand that has an address has the byte there as its value (R104 to R108). -/
theorem operandValue_of_address {o : Operand} {s : State} {a : Word} (h : target o s = .address a) :
    operandValue o s = s.mem.read a := by
  cases o <;> cases h <;> rfl

/-! ### A state with another memory -/

theorem State.reg_setMem (s : State) (m : Memory) (r : Reg) : (s.setMem m).reg r = s.reg r := by cases r <;> rfl

theorem State.setReg_setMem (s : State) (m : Memory) (r : Reg) (v : Byte) :
    (s.setMem m).setReg r v = (s.setReg r v).setMem m := by
  cases r <;> rfl

theorem State.mem_setReg (s : State) (r : Reg) (v : Byte) : (s.setReg r v).mem = s.mem := by cases r <;> rfl

/-- Two outcomes are next states that differ in memory only, and there at `b` only, unless `b` is among `stored`. -/
def SameOut (b : Word) (stored : List Word) (out out' : Out) : Prop :=
  ∃ t m, out = .next t ∧ out' = .next (t.setMem m) ∧ SameBut b stored t.mem m

section
variable {b : Word} {s : State} {m : Memory} (h : SameBut b [] s.mem m)
include h

/-! ### What is read agrees -/

/-- EA depends on the pointer bytes only (R106 to R108). -/
theorem SameBut.target {o : Operand} (hb : b ∉ pointerAddresses o s) : target o (s.setMem m) = target o s := by
  cases o
  case izx n => exact congrArg Target.address (h.readZeroPageWord hb)
  case izy n => exact congrArg (fun w => Target.address (w + zext16 s.y)) (h.readZeroPageWord hb)
  case ind w => exact congrArg Target.address (h.readWord hb)
  all_goals rfl

theorem SameBut.targetAddress {o : Operand} (hb : b ∉ pointerAddresses o s) :
    targetAddress o (s.setMem m) = targetAddress o s := by
  rw [Machine.targetAddress, h.target hb, Machine.targetAddress]

/-- M depends on the pointer bytes and on the byte at EA only. -/
theorem SameBut.operandValue {o : Operand} (hb : b ∉ pointerAddresses o s ++ targetAddresses (Machine.target o s)) :
    operandValue o (s.setMem m) = operandValue o s := by
  obtain ⟨hpointer, hea⟩ : b ∉ pointerAddresses o s ∧ b ∉ targetAddresses (Machine.target o s) := by simpa using hb
  cases hg : Machine.target o s
  case address a =>
    rw [operandValue_of_address hg, operandValue_of_address ((h.target hpointer).trans hg)]
    exact h.read (by simpa [hg, targetAddresses] using hea)
  case nothing | accumulator => cases o <;> cases hg <;> rfl

theorem SameBut.top8 (hb : b ≠ stackAddress (s.sp + 1#8)) : (s.setMem m).top8 = s.top8 := h.read hb

theorem SameBut.top16 (hlow : b ≠ stackAddress (s.sp + 1#8)) (hhigh : b ≠ stackAddress (s.sp + 2#8)) :
    (s.setMem m).top16 = s.top16 := by
  rw [State.top16_eq, State.top16_eq, State.mem_setMem, State.sp_setMem, h.read hlow, h.read hhigh]

/-! ### What is written agrees -/

theorem SameBut.writeBack (g : Target) (v : Byte) : ∃ m', (s.setMem m).writeBack g v = (s.writeBack g v).setMem m' ∧
    SameBut b (targetAddresses g) (s.writeBack g v).mem m' := by
  cases g with
  | nothing => exact ⟨m, rfl, h⟩
  | accumulator => exact ⟨m, rfl, h⟩
  | address a => exact ⟨m.write a v, rfl, h.write a v⟩

/-! ### The shared meanings -/

theorem load_same (r : Reg) {o : Operand} (hb : b ∉ pointerAddresses o s ++ targetAddresses (target o s)) :
    SameOut b [] (load r o s) (load r o (s.setMem m)) := by
  rw [load, load, h.operandValue hb, State.setReg_setMem]
  exact ⟨_, m, rfl, rfl, (State.mem_setReg s r _).symm ▸ h⟩

theorem store_same (r : Reg) {o : Operand} (hb : b ∉ pointerAddresses o s) :
    SameOut b (targetAddresses (target o s)) (store r o s) (store r o (s.setMem m)) := by
  rw [store, store, h.target hb, State.reg_setMem]
  obtain ⟨m', hm', h'⟩ := h.writeBack (target o s) (s.reg r)
  rw [hm']
  exact ⟨_, m', rfl, rfl, h'⟩

theorem transfer_same (src dst : Reg) : SameOut b [] (transfer src dst s) (transfer src dst (s.setMem m)) := by
  rw [transfer, transfer, State.reg_setMem, State.setReg_setMem]
  exact ⟨_, m, rfl, rfl, (State.mem_setReg s dst _).symm ▸ h⟩

theorem addToA_same (f : Byte → Byte → Bool → AluSum) (op : Byte) {o : Operand}
    (hb : b ∉ pointerAddresses o s ++ targetAddresses (target o s)) :
    SameOut b [] (addToA f op o s) (addToA f op o (s.setMem m)) := by
  rw [addToA, addToA, h.operandValue hb, State.flag_setMem]
  split
  · exact ⟨_, m, rfl, rfl, h⟩
  · exact ⟨_, m, rfl, rfl, h⟩

theorem logic_same (f : Byte → Byte → Byte) {o : Operand}
    (hb : b ∉ pointerAddresses o s ++ targetAddresses (target o s)) : SameOut b [] (logic f o s) (logic f o (s.setMem m)) := by
  rw [logic, logic, h.operandValue hb]
  exact ⟨_, m, rfl, rfl, h⟩

theorem compareReg_same (r : Reg) {o : Operand} (hb : b ∉ pointerAddresses o s ++ targetAddresses (target o s)) :
    SameOut b [] (compareReg r o s) (compareReg r o (s.setMem m)) := by
  rw [compareReg, compareReg, h.operandValue hb, State.reg_setMem]
  exact ⟨_, m, rfl, rfl, h⟩

theorem bitTest_same {o : Operand} (hb : b ∉ pointerAddresses o s ++ targetAddresses (target o s)) :
    SameOut b [] (bitTest o s) (bitTest o (s.setMem m)) := by
  rw [bitTest, bitTest, h.operandValue hb]
  exact ⟨_, m, rfl, rfl, h⟩

theorem stepByte_same (f : Byte → Byte) {o : Operand}
    (hb : b ∉ pointerAddresses o s ++ targetAddresses (target o s)) :
    SameOut b (targetAddresses (target o s)) (stepByte f o s) (stepByte f o (s.setMem m)) := by
  rw [stepByte, stepByte, h.operandValue hb, h.target fun hp => hb (List.mem_append_left _ hp)]
  obtain ⟨m', hm', h'⟩ := h.writeBack (target o s) (f (operandValue o s))
  rw [hm']
  exact ⟨_, m', rfl, rfl, h'⟩

theorem stepReg_same (r : Reg) (f : Byte → Byte) : SameOut b [] (stepReg r f s) (stepReg r f (s.setMem m)) := by
  rw [stepReg, stepReg, State.reg_setMem, State.setReg_setMem]
  exact ⟨_, m, rfl, rfl, (State.mem_setReg s r _).symm ▸ h⟩

theorem shift_same (f : Byte → Shifted) {o : Operand}
    (hb : b ∉ pointerAddresses o s ++ targetAddresses (target o s)) :
    SameOut b (targetAddresses (target o s)) (shift f o s) (shift f o (s.setMem m)) := by
  rw [shift, shift, h.operandValue hb, h.target fun hp => hb (List.mem_append_left _ hp)]
  obtain ⟨m', hm', h'⟩ := h.writeBack (target o s) (f (operandValue o s)).value
  rw [hm']
  exact ⟨_, m', rfl, rfl, h'⟩

theorem branch_same (cond : Bool) (n : Byte) : SameOut b [] (branch cond n s) (branch cond n (s.setMem m)) := by
  cases cond <;> exact ⟨_, m, rfl, rfl, h⟩

/-- BRK reads its vector after the pushes, in memories that still differ at `b` at most (60_exceptions.md R245). -/
theorem enter_same (ret : Word) (flag : Bool) {vec : Word} (hb : b ∉ [vec, vec + 1#16]) :
    SameOut b [stackAddress s.sp, stackAddress (s.sp - 1#8), stackAddress (s.sp - 2#8)] (.next (s.enter ret flag vec))
      (.next ((s.setMem m).enter ret flag vec)) := by
  have pushes := ((h.write (stackAddress s.sp) (hi ret)).write (stackAddress (s.sp - 1#8)) (lo ret)).write
    (stackAddress (s.sp - 1#8 - 1#8)) s.p
  rw [← two_steps_down]
  refine ⟨_, _, rfl, congrArg Host.Outcome.next ?_, pushes⟩
  exact congrArg ((s.setMem m).enter ret flag vec).setPc (pushes.readWord hb)

/-- RTI reads the three bytes above SP (45_control.md R223). -/
theorem leave_same (hb : b ∉ [stackAddress (s.sp + 1#8), stackAddress (s.sp + 2#8), stackAddress (s.sp + 3#8)]) :
    SameOut b [] (.next s.leave) (.next (s.setMem m).leave) := by
  obtain ⟨h₁, h₂, h₃⟩ : b ≠ stackAddress (s.sp + 1#8) ∧ b ≠ stackAddress (s.sp + 2#8) ∧ b ≠ stackAddress (s.sp + 3#8) := by
    simpa using hb
  have hp : (s.setMem m).leave.p = s.leave.p := h.read h₁
  have hpc : (s.setMem m).leave.pc = s.leave.pc := by
    rw [State.pc_leave, State.pc_leave, State.mem_setMem, State.sp_setMem, h.read h₂, h.read h₃]
  exact ⟨_, m, rfl, congrArg Host.Outcome.next (congrArg₂ ((s.leave.setMem m).setP · |>.setPc ·) hp hpc), h⟩

/-! ### The instructions -/

/-- From states that differ in a byte the instruction does not read, it answers states that differ in that byte at most, and
not even there when it writes it. -/
theorem exec_same {i : Instr} (hb : b ∉ readSet i s) : SameOut b (writeSet i s) (exec i s) (exec i (s.setMem m)) := by
  rw [exec_eq_rule, exec_eq_rule, writeSet]
  unfold readSet at hb
  generalize i.mnemonic = k, instrOperand i = o, opcodeByte i = op at hb
  cases k <;> simp only [rule, writesTarget]
  case lda | ldx | ldy => exact load_same h _ hb
  case sta | stx | sty => exact store_same h _ fun hp => hb (List.mem_append_left _ hp)
  case tax | tay | txa | tya | tsx => exact transfer_same h _ _
  case adc | sbc => exact addToA_same h _ op hb
  case and | ora | eor => exact logic_same h _ hb
  case cmp | cpx | cpy => exact compareReg_same h _ hb
  case bit => exact bitTest_same h hb
  case inc | dec => exact stepByte_same h _ hb
  case inx | iny | dex | dey => exact stepReg_same h _ _
  case asl | lsr | rol | ror => exact shift_same h _ hb
  case txs | clc | sec | cli | sei | cld | sed | clv | nop => exact ⟨_, m, rfl, rfl, h⟩
  case pha | php => exact ⟨_, _, rfl, rfl, h.write _ _⟩
  case pla | plp =>
    rw [h.top8 (by simpa using hb)]
    exact ⟨_, m, rfl, rfl, h⟩
  case jmp =>
    rw [h.targetAddress fun hp => hb (List.mem_append_left _ hp)]
    exact ⟨_, m, rfl, rfl, h⟩
  case jsr =>
    rw [h.targetAddress fun hp => hb (List.mem_append_left _ hp)]
    exact ⟨_, _, rfl, rfl, (h.write _ _).write _ _⟩
  case rts =>
    obtain ⟨hlow, hhigh⟩ : b ≠ stackAddress (s.sp + 1#8) ∧ b ≠ stackAddress (s.sp + 2#8) := by simpa using hb
    rw [h.top16 hlow hhigh]
    exact ⟨_, m, rfl, rfl, h⟩
  case bcc | bcs | beq | bmi | bne | bpl | bvc | bvs =>
    rw [h.operandValue hb]
    exact branch_same h _ _
  case brk => exact enter_same h _ _ hb
  case rti => exact leave_same h hb

end

/-- Settles O55: the state with the byte written differs from the first in that byte at most, and `exec` keeps that. -/
theorem memoryIsReadOnlyAtTheSources : Obligations.MemoryIsReadOnlyAtTheSources := by
  intro i s b v hb
  obtain ⟨t, m, ht, hu, h⟩ := exec_same (sameBut_write s.mem b v) hb
  exact ⟨t, t.setMem m, ht, hu, rfl, rfl, rfl, rfl, rfl, rfl, rfl, fun c hc => h c (.inl hc), fun hw => h b (.inr hw)⟩

end Sys2Proof.Machine
end

section
/-! SUPPORT. The OperandResolver in the numbers of the spec (40_execution.md R101 to R110). -/

namespace Sys2Proof.Machine

/-- An operand's effective address has the number `ea`, and its value is the byte there. -/
theorem exists_target_of_toNat {o : Operand} {s : State} {a : Word} {ea : Nat} (ht : target o s = .address a) (ha : a.toNat = ea) :
    ∃ a, target o s = .address a ∧ a.toNat = ea ∧ operandValue o s = s.mem.read a :=
  ⟨a, ht, ha, operandValue_of_address ht⟩

/-- A page-zero address plus an index stays in page zero. -/
theorem toNat_zext16_add (n x : Byte) : (zext16 (n + x)).toNat = (n.toNat + x.toNat) % 256 := by
  rw [toNat_zext16, BitVec.toNat_add]

theorem toNat_add_zext16 (w : Word) (x : Byte) : (w + zext16 x).toNat = (w.toNat + x.toNat) % 65536 := by
  rw [BitVec.toNat_add, toNat_zext16]

/-- Settles O5, from the sum of two bytes. -/
theorem zeroPageOperands : Obligations.ZeroPageOperands := fun s n =>
  ⟨exists_target_of_toNat rfl (toNat_zext16 n), exists_target_of_toNat rfl (toNat_zext16_add n s.x),
    exists_target_of_toNat rfl (toNat_zext16_add n s.y)⟩

/-- Settles O6, from the sum of a word and a byte. -/
theorem absoluteOperands : Obligations.AbsoluteOperands := fun s w =>
  ⟨exists_target_of_toNat rfl rfl, exists_target_of_toNat rfl (toNat_add_zext16 w s.x),
    exists_target_of_toNat rfl (toNat_add_zext16 w s.y)⟩

theorem Memory.toNat_readZeroPageWord (m : Memory) (z : Byte) :
    (m.readZeroPageWord z).toNat = twoBytes m (BitVec.ofNat 16 ((z.toNat + 1) % 256)) (BitVec.ofNat 16 z.toNat) := by
  have hnext : (z + 1#8).toNat = (z.toNat + 1) % 256 := BitVec.toNat_add z 1#8
  rw [Memory.readZeroPageWord, toNat_wordOf, twoBytes, zext16, zext16, hnext]

/-- Settles O7: the words at the pointers, whose second byte lies at the next address of memory or of page zero. -/
theorem pointerOperands : Obligations.PointerOperands := by
  intro s n w
  refine ⟨exists_target_of_toNat rfl ?_, exists_target_of_toNat rfl ?_, exists_target_of_toNat rfl ?_⟩
  · rw [ofNat_next_address, Memory.toNat_readWord]
  · rw [Memory.toNat_readZeroPageWord, BitVec.toNat_add, Nat.mod_add_mod]
  · rw [toNat_add_zext16, Memory.toNat_readZeroPageWord]

/-- Settles O8: each mode by its definition, the address form of write-back by the laws of memory. -/
theorem impliedImmediateAccumulatorOperands : Obligations.ImpliedImmediateAccumulatorOperands := fun s _ v b =>
  ⟨⟨rfl, rfl⟩, ⟨rfl, rfl⟩, ⟨rfl, rfl⟩, ⟨rfl, rfl⟩, rfl, rfl, s.mem.read_write_same b v, frame_writeByte s b v, rfl⟩

end Sys2Proof.Machine
end

section
/-! SUPPORT. The step, the run and the plain PC advance (40_execution.md R111, R112, R114). -/

namespace Sys2Proof.Machine

/-! ### The step of an encoded instruction (R111) -/

/-- No instruction is longer than three bytes (30_encoding.md R81). -/
theorem pcOffset_le_three (mode : AddrMode) : pcOffset mode ≤ 3 := by cases mode <;> decide

/-- Byte `k` of a fetch is the one `k` addresses above PC. -/
theorem getElem_fetchBytes (s : State) {k : Nat} (hk : k < (fetchBytes s).length) :
    (fetchBytes s)[k] = s.mem.read (s.pc + BitVec.ofNat 16 k) := by
  match k with
  | 0 => simp [fetchBytes]
  | 1 => rfl
  | 2 => rfl
  | _ + 3 => exact absurd hk (by simp [fetchBytes])

/-- The fetch begins with the encoding that stands at PC. -/
theorem encode_isPrefix_fetchBytes {s : State} {i : Instr}
    (h : ∀ k, k < (encode i).length → s.mem.read (s.pc + BitVec.ofNat 16 k) = (encode i).getD k 0#8) :
    encode i <+: fetchBytes s := by
  have hlen : (encode i).length ≤ (fetchBytes s).length := length_encode i ▸ pcOffset_le_three _
  refine List.prefix_iff_getElem.2 ⟨hlen, fun k hk => ?_⟩
  rw [getElem_fetchBytes, h k hk, List.getD_eq_getElem _ _ hk]

/-- Settles O13: by O1 the decoder reads the encoded instruction from the fetched bytes. -/
theorem stepRunsTheEncodedInstruction : Obligations.StepRunsTheEncodedInstruction := by
  intro s i _ hrun h
  obtain ⟨rest, hfetch⟩ := encode_isPrefix_fetchBytes h
  exact step_of_fetch hrun ((decodeExactlyEncode _ rest i).2 hfetch.symm)

/-! ### The run (R114) -/

theorem run_of_steady (n : Nat) {s : State} (h : s.run = .steady) : run n s = runSteady n s := by
  rw [run, h]

/-- A run ends with the step that raises a fatal error. -/
theorem runSteady_succ_of_fatal (k : Nat) {s u : State} {r : FatalRecord} (h : step s = .next u) (hu : u.run = .fatal r) :
    runSteady (k + 1) s = .next u := by
  rw [runSteady, h]
  simp only [hu]

/-- A run goes on after a step that raises none. -/
theorem runSteady_succ_of_not_fatal (k : Nat) {s u : State} (h : step s = .next u) (hu : ∀ r, u.run ≠ .fatal r) :
    runSteady (k + 1) s = runSteady k u := by
  rw [runSteady, h]
  cases hrun : u.run with
  | fatal r => exact absurd hrun (hu r)
  | unbooted => simp only [hrun]
  | steady => simp only [hrun]

theorem runSteady_one (s : State) : runSteady 1 s = step s := by
  cases hstep : step s with
  | next u =>
    cases hu : u.run with
    | fatal r => exact runSteady_succ_of_fatal 0 hstep hu
    | unbooted => exact runSteady_succ_of_not_fatal 0 hstep (by simp [hu])
    | steady => exact runSteady_succ_of_not_fatal 0 hstep (by simp [hu])
  | fault r => rw [runSteady, hstep]
  | refused r => rw [runSteady, hstep]

/-- A run that ends in `t` has a first step, which ends it by a fatal error or from which the rest of it ends in `t`. -/
theorem runSteady_succ_next {j : Nat} {s t : State} (h : runSteady (j + 1) s = .next t) :
    ∃ u, step s = .next u ∧
      ((∃ r, u.run = .fatal r) ∧ t = u ∨ (∀ r, u.run ≠ .fatal r) ∧ runSteady j u = .next t) := by
  cases hstep : step s with
  | next u =>
    refine ⟨u, rfl, ?_⟩
    by_cases hu : ∃ r, u.run = .fatal r
    · obtain ⟨r, hr⟩ := hu
      rw [runSteady_succ_of_fatal j hstep hr] at h
      cases h
      exact .inl ⟨⟨r, hr⟩, rfl⟩
    · have hnot : ∀ r, u.run ≠ .fatal r := fun r hr => hu ⟨r, hr⟩
      rw [runSteady_succ_of_not_fatal j hstep hnot] at h
      exact .inr ⟨hnot, h⟩
  | fault r =>
    rw [runSteady, hstep] at h
    cases h
  | refused r =>
    rw [runSteady, hstep] at h
    cases h

/-- The second part of a run starts where the first ended, unless that raised a fatal error. -/
theorem runSteady_add {j : Nat} (k : Nat) {s t : State} (hs : ∀ r, s.run ≠ .fatal r) (h : runSteady j s = .next t) :
    ((∀ r, t.run ≠ .fatal r) → runSteady (j + k) s = runSteady k t) ∧
      ∀ r, t.run = .fatal r → runSteady (j + k) s = .next t := by
  induction j generalizing s with
  | zero =>
    cases h
    exact ⟨fun _ => by rw [Nat.zero_add], fun r hr => absurd hr (hs r)⟩
  | succ j ih =>
    rw [Nat.add_right_comm]
    obtain ⟨u, hstep, ⟨⟨r, hr⟩, rfl⟩ | ⟨hu, hrest⟩⟩ := runSteady_succ_next h
    · exact ⟨fun hnot => absurd hr (hnot r), fun _ _ => runSteady_succ_of_fatal _ hstep hr⟩
    · rw [runSteady_succ_of_not_fatal _ hstep hu]
      exact ih hu hrest

/-- Settles O50, by induction on the first part of the run. -/
theorem runIsRepeatedExecute : Obligations.RunIsRepeatedExecute := by
  intro s j k hrun
  simp only [run_of_steady _ hrun]
  refine ⟨rfl, runSteady_one s, fun t ht => ?_⟩
  obtain ⟨hgoes, hstops⟩ := runSteady_add k (by simp [hrun]) ht
  exact ⟨fun hsteady => run_of_steady k hsteady ▸ hgoes (by simp [hsteady]), hstops⟩

/-! ### The plain PC advance (R112) -/

/-- An instruction's operand has one of its mnemonic's modes (30_encoding.md R84). -/
theorem operandMode_mem_modes (i : Instr) : operandMode (instrOperand i) ∈ i.mnemonic.modes := by
  rw [operandMode_instrOperand]
  exact List.contains_iff_mem.1 (instr_wf i)

/-- An instruction with the implied mode only is one byte long (30_encoding.md R81). -/
theorem operandLength_of_implied {o : Operand} (h : operandMode o ∈ [AddrMode.implied]) : operandLength o = 1 := by
  rw [operandLength, List.mem_singleton.1 h]
  rfl

/-- The rules outside control transfer advance PC over the operand, but ADC and SBC with D = 1 (42_alu.md R152). -/
theorem rule_advances {k : Mnemonic} (op : Byte) {o : Operand} {s : State} (hmode : operandMode o ∈ k.modes)
    (hplain : controlTransfer k = false) (hd : k = .adc ∨ k = .sbc → s.flag .d = false) :
    ∃ t, rule k op o s = .next t ∧ Advances o s t := by
  cases k
  case jmp | jsr | rts | rti | brk | bcc | bcs | beq | bmi | bne | bpl | bvc | bvs => cases hplain
  case adc | sbc =>
    rw [rule, addToA, hd (by simp)]
    exact ⟨_, rfl, rfl⟩
  case sta | stx | sty | inc | dec | asl | lsr | rol | ror =>
    exact ⟨_, rfl, congrArg (· + BitVec.ofNat 16 (operandLength o)) (State.pc_writeBack s (target o s) _)⟩
  case tax | tay | txa | tya | tsx | txs | inx | iny | dex | dey | clc | sec | cli | sei | cld | sed | clv | nop | pha | php | pla
      | plp =>
    exact ⟨_, rfl, congrArg (s.pc + BitVec.ofNat 16 ·) (operandLength_of_implied hmode).symm⟩
  all_goals exact ⟨_, rfl, rfl⟩

/-- Settles O53: the rule's advance, and the length of the encoding is that of the operand. -/
theorem pcAdvancesByTheLength : Obligations.PcAdvancesByTheLength := by
  intro i s t h hplain hd
  obtain ⟨u, hu, hadvance⟩ := rule_advances (opcodeByte i) (operandMode_mem_modes i) hplain hd
  rw [← exec_eq_rule, h, Host.Outcome.next.injEq] at hu
  subst hu
  rw [hadvance, length_encode, BitVec.toNat_add, BitVec.toNat_ofNat, Nat.add_mod_mod]

end Sys2Proof.Machine
end

section
/-! SUPPORT. Loads, stores and transfers (41_load_store.md R130 to R141): what each shared meaning does, said once for every
register and operand; a row of R84 then does what its instruction's meaning does. -/

namespace Sys2Proof.Machine

/-! ### A register written with Z and N (R130 to R132, R136 to R140) -/

@[simp] theorem State.reg_setReg_same (s : State) (r : Reg) (v : Byte) : (s.setReg r v).reg r = v := by cases r <;> rfl
@[simp] theorem State.pc_setReg (s : State) (r : Reg) (v : Byte) : (s.setReg r v).pc = s.pc := by cases r <;> rfl
@[simp] theorem State.reg_setNZ (s : State) (v : Byte) (r : Reg) : (s.setNZ v).reg r = s.reg r := by cases r <;> rfl
@[simp] theorem State.reg_advance (s : State) (n : Nat) (r : Reg) : (s.advance n).reg r = s.reg r := by cases r <;> rfl

/-- From `s` to `t` the register takes `v`, Z and N are those of `v`, PC advances over the operand, and nothing else changes. -/
def Loads (r : Reg) (v : Byte) (o : Operand) (s t : State) : Prop :=
  t.reg r = v ∧ NZ v t ∧ Advances o s t ∧ Frame [r.piece, .flag .z, .flag .n] [] s t

theorem loads_setReg (s : State) (r : Reg) (v : Byte) (o : Operand) :
    Loads r v o s (((s.setReg r v).setNZ v).advance (operandLength o)) := by
  refine ⟨by simp, nz_of_flags (by simp) (by simp), ?_, ((frame_setReg s r v).setNZ v).advance _⟩
  rw [Advances, State.pc_advance, State.pc_setNZ, State.pc_setReg]

/-- A row whose instruction is a load of `r` takes its operand's value into `r`. -/
theorem load_does (r : Reg) {row : Row} {s : State} (hop : (encode row.instr).head? = some row.opcode)
    (hexec : exec row.instr s = load r row.operand s) :
    row.Does s (Loads r (operandValue row.operand s) row.operand s) :=
  ⟨hop, _, hexec, loads_setReg s r _ row.operand⟩

/-- A row of one byte whose instruction is a transfer copies `src` to `dst`. -/
theorem transfer_does (src dst : Reg) {row : Row} {s : State} (hop : (encode row.instr).head? = some row.opcode)
    (hexec : exec row.instr s = transfer src dst s) (hlen : operandLength row.operand = 1) :
    row.Does s (Loads dst (s.reg src) row.operand s) :=
  ⟨hop, _, hexec, hlen ▸ loads_setReg s dst (s.reg src) row.operand⟩

/-- Settles O20: every row is a load of A. -/
theorem ldaLoadsTheOperand : Obligations.LdaLoadsTheOperand := by
  intro s n w row hrow
  fin_cases hrow <;> exact load_does .a rfl rfl

/-- Settles O21: every row is a load of X. -/
theorem ldxLoadsTheOperand : Obligations.LdxLoadsTheOperand := by
  intro s n w row hrow
  fin_cases hrow <;> exact load_does .x rfl rfl

/-- Settles O22: every row is a load of Y. -/
theorem ldyLoadsTheOperand : Obligations.LdyLoadsTheOperand := by
  intro s n w row hrow
  fin_cases hrow <;> exact load_does .y rfl rfl

/-- Settles O24: five rows are transfers; TXS writes SP and no flag. -/
theorem transfersCopyTheRegister : Obligations.TransfersCopyTheRegister := fun s =>
  ⟨transfer_does .a .x rfl rfl rfl, transfer_does .a .y rfl rfl rfl, transfer_does .x .a rfl rfl rfl,
    transfer_does .y .a rfl rfl rfl, transfer_does .sp .x rfl rfl rfl,
    ⟨rfl, _, rfl, rfl, rfl, (frame_setReg s .sp s.x).advance 1⟩⟩

/-! ### Stores (R133 to R135) -/

/-- A row whose instruction is a store of `r`, and whose operand has an address, writes `r` there and nothing else. -/
theorem store_does (r : Reg) {row : Row} {s : State} {a : Word} (hop : (encode row.instr).head? = some row.opcode)
    (hexec : exec row.instr s = store r row.operand s) (ht : target row.operand s = .address a) :
    row.Does s fun t => ∃ a, target row.operand s = .address a ∧ t.mem.read a = s.reg r ∧ Advances row.operand s t ∧
      Frame [] [a] s t := by
  rw [store, ht] at hexec
  exact ⟨hop, _, hexec, a, ht, s.mem.read_write_same a _, rfl, (frame_writeByte s a _).advance _⟩

/-- Settles O23: seven rows store A, three X and three Y. -/
theorem storesWriteTheRegister : Obligations.StoresWriteTheRegister := by
  intro s n w q hq
  fin_cases hq
  iterate 7 exact store_does .a rfl rfl rfl
  iterate 3 exact store_does .x rfl rfl rfl
  iterate 3 exact store_does .y rfl rfl rfl

end Sys2Proof.Machine
end

section
/-! SUPPORT. Arithmetic, logic, compare, increment and shift (42_alu.md): the byte functions in the numbers of the spec, then
what each shared meaning does, said once for every operand; a row of R84 does what its instruction's meaning does. -/

namespace Sys2Proof.Machine

/-! ### The adder and the subtractor (R151) -/

/-- The V of R151 as the statements write it. -/
theorem outsideSigned_eq (v : Int) : outsideSigned v = decide (¬(-128 ≤ v ∧ v ≤ 127)) := by
  rw [outsideSigned, decide_not, Bool.decide_and]

theorem toNat_value_addWithCarry (a m : Byte) (c : Bool) :
    ((addWithCarry a m c).value.toNat : Int) = ((a.toNat : Int) + m.toNat + c.toNat) % 256 := by
  rw [addWithCarry, BitVec.toNat_ofNat]
  push_cast
  rfl

theorem carry_addWithCarry (a m : Byte) (c : Bool) :
    (addWithCarry a m c).carry = decide (256 ≤ (a.toNat : Int) + m.toNat + c.toNat) :=
  decide_eq_decide.2 (by omega)

theorem toNat_value_subWithBorrow (a m : Byte) (c : Bool) :
    ((subWithBorrow a m c).value.toNat : Int) = ((a.toNat : Int) - m.toNat - (1 - c.toNat)) % 256 := by
  rw [subWithBorrow, BitVec.toNat_ofInt]
  exact Int.toNat_of_nonneg (Int.emod_nonneg _ (by decide))

theorem toNat_complement (m : Byte) : (~~~m).toNat = 255 - m.toNat := BitVec.toNat_not

theorem toInt_complement (m : Byte) : (~~~m).toInt = -1 - m.toInt := by
  rw [BitVec.toInt_eq_toNat_cond, BitVec.toInt_eq_toNat_cond, toNat_complement]
  omega

/-- Settles O27: the complement has the number `255 - m` unsigned and `-1 - m` signed, so the sums differ by 256 and by 0. -/
theorem subtractIsAddOfComplement : Obligations.SubtractIsAddOfComplement := by
  intro a m c
  have hnot := toNat_complement m
  have hvalue : (subWithBorrow a m c).value = (addWithCarry a (~~~m) c).value := by
    have hsub := toNat_value_subWithBorrow a m c
    have hadd := toNat_value_addWithCarry a (~~~m) c
    exact BitVec.eq_of_toNat_eq (by omega)
  have hcarry : (subWithBorrow a m c).carry = (addWithCarry a (~~~m) c).carry := decide_eq_decide.2 (by omega)
  have hoverflow : (subWithBorrow a m c).overflow = (addWithCarry a (~~~m) c).overflow :=
    congrArg outsideSigned (by rw [toInt_complement]; omega)
  exact (AluSum.mk.injEq ..).mpr ⟨hvalue, hcarry, hoverflow⟩

/-! ### ADC and SBC (R152, R155, R156) -/

theorem Row.Does.imp {row : Row} {s : State} {post post' : State → Prop} (h : row.Does s post) (himp : ∀ t, post t → post' t) :
    row.Does s post' :=
  have ⟨hop, t, hexec, hpost⟩ := h
  ⟨hop, t, hexec, himp t hpost⟩

/-- The instruction's first byte is its opcode byte. -/
theorem head?_encode (i : Instr) : (encode i).head? = some (opcodeByte i) := by
  obtain ⟨op, -, hop, -⟩ := exists_opcodeRow i
  rw [opcodeByte, hop]
  rfl

/-- ADC and SBC with D = 1 raise the fatal error (R152). -/
theorem exec_of_decimal {i : Instr} {s : State} (hm : i.mnemonic = .adc ∨ i.mnemonic = .sbc) (hd : s.flag .d = true) :
    exec i s = .next (s.raiseFatal .unimplementedFeature (opcodeByte i)) := by
  rw [exec_eq_rule]
  rcases hm with hm | hm <;> rw [hm, rule, addToA, if_pos hd]

/-- Settles O19: with D = 1 ADC and SBC raise the error; every other case keeps Run. -/
theorem onlyDecimalAddSubIsFatal : Obligations.OnlyDecimalAddSubIsFatal := by
  intro i s hrun
  refine ⟨fun ⟨hm, hd⟩ => ⟨_, head?_encode i, exec_of_decimal hm hd, rfl⟩, fun hnot => ?_⟩
  obtain ⟨hm, hd, -⟩ | ⟨t, hexec, hkeep, -⟩ := exec_cases i s
  · exact absurd ⟨hm, hd⟩ hnot
  · exact ⟨t, hexec, hkeep.trans hrun⟩

/-- From `s` to `t` A, C and V are those of a sum, Z and N those of A, PC advances over the operand, nothing else changes. -/
def TakesSum (sum : AluSum) (o : Operand) (s t : State) : Prop :=
  t.a = sum.value ∧ t.flag .c = sum.carry ∧ t.flag .v = sum.overflow ∧ NZ t.a t ∧ Advances o s t ∧
    Frame [.a, .flag .c, .flag .v, .flag .z, .flag .n] [] s t

theorem takesSum_of_addToA (f : Byte → Byte → Bool → AluSum) (op : Byte) (o : Operand) {s : State} (hd : s.flag .d = false) :
    ∃ t, addToA f op o s = .next t ∧ TakesSum (f s.a (operandValue o s) (s.flag .c)) o s t := by
  obtain ⟨t, ht, hframe⟩ := addToA_framed f op o hd
  refine ⟨t, ht, ?_⟩
  rw [addToA, hd] at ht
  cases ht
  exact ⟨rfl, by simp, by simp, nz_of_flags (by simp) (by simp), rfl, hframe⟩

/-- What a row over an adder does: the sum with D = 0, the fatal error with D = 1. -/
theorem addToA_does (f : Byte → Byte → Bool → AluSum) {row : Row} {s : State} (hop : (encode row.instr).head? = some row.opcode)
    (hexec : exec row.instr s = addToA f row.opcode row.operand s) :
    (s.flag .d = false → row.Does s (TakesSum (f s.a (operandValue row.operand s) (s.flag .c)) row.operand s)) ∧
    (s.flag .d = true → row.Does s fun t => t = { s with run := .fatal ⟨.unimplementedFeature, row.opcode, s.pc⟩ }) := by
  rw [Row.Does, Row.Does, hexec]
  exact ⟨fun hd => ⟨hop, takesSum_of_addToA f _ _ hd⟩, fun hd => ⟨hop, _, if_pos hd, rfl⟩⟩

/-- Settles O25: every row is the adder, in the numbers of R151. -/
theorem adcAddsWithCarry : Obligations.AdcAddsWithCarry := by
  intro s n w row hrow
  have hop : (encode row.instr).head? = some row.opcode := by fin_cases hrow <;> rfl
  have hexec : exec row.instr s = addToA addWithCarry row.opcode row.operand s := by fin_cases hrow <;> rfl
  refine (addToA_does addWithCarry hop hexec).imp_left fun hsum hd => (hsum hd).imp fun t ⟨ha, hc, hv, hrest⟩ => ⟨?_, ?_, ?_, hrest⟩
  · rw [ha, toNat_value_addWithCarry]
  · rw [hc, carry_addWithCarry]
  · rw [hv, addWithCarry, outsideSigned_eq]

/-- Settles O26: every row is the subtractor, in the numbers of R151. -/
theorem sbcSubtractsWithBorrow : Obligations.SbcSubtractsWithBorrow := by
  intro s n w row hrow
  have hop : (encode row.instr).head? = some row.opcode := by fin_cases hrow <;> rfl
  have hexec : exec row.instr s = addToA subWithBorrow row.opcode row.operand s := by fin_cases hrow <;> rfl
  refine (addToA_does subWithBorrow hop hexec).imp_left fun hsum hd => (hsum hd).imp fun t ⟨ha, hc, hv, hrest⟩ => ⟨?_, ?_, ?_, hrest⟩
  · rw [ha, toNat_value_subWithBorrow]
  · rw [hc, subWithBorrow]
  · rw [hv, subWithBorrow, outsideSigned_eq]

/-! ### AND, ORA, EOR and BIT (R157 to R159, R163) -/

/-- A row whose instruction is a logic operation that acts on bytes as `g` does on bits. -/
theorem logic_does {f : Byte → Byte → Byte} {g : Bool → Bool → Bool}
    (hbit : ∀ (a m : Byte) (k : Nat), (f a m).getLsbD k = g (a.getLsbD k) (m.getLsbD k)) {row : Row} {s : State}
    (hop : (encode row.instr).head? = some row.opcode) (hexec : exec row.instr s = logic f row.operand s) :
    row.Does s fun t => (∀ k < 8, t.a.getLsbD k = g (s.a.getLsbD k) ((operandValue row.operand s).getLsbD k)) ∧
      NZ t.a t ∧ Advances row.operand s t ∧ Frame [.a, .flag .z, .flag .n] [] s t := by
  obtain ⟨-, hrest⟩ := loads_setReg s .a (f s.a (operandValue row.operand s)) row.operand
  exact ⟨hop, _, hexec, fun k _ => hbit _ _ k, hrest⟩

/-- Settles O28: eight rows each of and, or and exclusive or, which are bitwise. -/
theorem logicCombinesBitwise : Obligations.LogicCombinesBitwise := by
  intro s n w q hq
  fin_cases hq
  iterate 8 exact logic_does (fun _ _ _ => BitVec.getLsbD_and) rfl rfl
  iterate 8 exact logic_does (fun _ _ _ => BitVec.getLsbD_or) rfl rfl
  iterate 8 exact logic_does (fun _ _ _ => BitVec.getLsbD_xor) rfl rfl

theorem bitTest_does {row : Row} {s : State} (hop : (encode row.instr).head? = some row.opcode)
    (hexec : exec row.instr s = bitTest row.operand s) :
    row.Does s fun t =>
      t.flag .z = decide (s.a &&& operandValue row.operand s = 0#8) ∧ t.flag .v = (operandValue row.operand s).getLsbD 6 ∧
      t.flag .n = (operandValue row.operand s).getLsbD 7 ∧ Advances row.operand s t ∧
      Frame [.flag .z, .flag .v, .flag .n] [] s t := by
  obtain ⟨t, ht, hframe⟩ := bitTest_framed row.operand s
  refine ⟨hop, t, hexec.trans ht, ?_⟩
  cases ht
  exact ⟨by simp [beq_eq_decide], by simp, by simp, rfl, hframe⟩

/-- Settles O30: both rows are BIT's meaning. -/
theorem bitTestsTheOperand : Obligations.BitTestsTheOperand := by
  intro s n w row hrow
  fin_cases hrow <;> exact bitTest_does rfl rfl

/-! ### CMP, CPX and CPY (R153, R160 to R162) -/

/-- Bit 7 of a byte difference, in numbers. -/
theorem bit7_sub (r m : Byte) : (r - m).getLsbD 7 = decide (128 ≤ (r.toNat + 256 - m.toNat) % 256) := by
  have hsub : (r - m).toNat = (r.toNat + 256 - m.toNat) % 256 := by bv_omega
  rw [← hsub]
  exact BitVec.msb_eq_decide (r - m)

/-- A row whose instruction compares a register with its operand. -/
theorem compareReg_does (r : Reg) {row : Row} {s : State} (hop : (encode row.instr).head? = some row.opcode)
    (hexec : exec row.instr s = compareReg r row.operand s) :
    row.Does s fun t =>
      t.flag .c = decide ((operandValue row.operand s).toNat ≤ (s.reg r).toNat) ∧
      t.flag .z = decide (s.reg r = operandValue row.operand s) ∧
      t.flag .n = decide (128 ≤ ((s.reg r).toNat + 256 - (operandValue row.operand s).toNat) % 256) ∧
      Advances row.operand s t ∧ Frame [.flag .c, .flag .z, .flag .n] [] s t := by
  obtain ⟨t, ht, hframe⟩ := compareReg_framed r row.operand s
  refine ⟨hop, t, hexec.trans ht, ?_⟩
  cases ht
  refine ⟨by simp, by simp [beq_eq_decide], ?_, rfl, hframe⟩
  rw [← bit7_sub]
  simp

/-- Settles O29: eight rows compare A, three X and three Y. -/
theorem comparesSetCarryZeroNegative : Obligations.ComparesSetCarryZeroNegative := by
  intro s n w q hq
  fin_cases hq
  iterate 8 exact compareReg_does .a rfl rfl
  iterate 3 exact compareReg_does .x rfl rfl
  iterate 3 exact compareReg_does .y rfl rfl

/-! ### Increments and decrements (R164 to R169) -/

theorem toNat_add_one (v : Byte) : (v + 1#8).toNat = (v.toNat + 1) % 256 := BitVec.toNat_add v 1#8

theorem toNat_sub_one (v : Byte) : (v - 1#8).toNat = (v.toNat + 255) % 256 := by bv_omega

/-- A row whose instruction adds `k` modulo 256 to the byte at its operand's address. -/
theorem stepByte_does {f : Byte → Byte} {k : Nat} (hf : ∀ v, (f v).toNat = (v.toNat + k) % 256) {row : Row} {s : State} {a : Word}
    (hop : (encode row.instr).head? = some row.opcode) (hexec : exec row.instr s = stepByte f row.operand s)
    (htarget : target row.operand s = .address a) :
    row.Does s fun t => ∃ a, target row.operand s = .address a ∧
      (t.mem.read a).toNat = ((operandValue row.operand s).toNat + k) % 256 ∧ NZ (t.mem.read a) t ∧
      Advances row.operand s t ∧ Frame [.flag .z, .flag .n] [a] s t := by
  obtain ⟨t, ht, hframe⟩ := stepByte_framed f row.operand s
  refine ⟨hop, t, hexec.trans ht, a, htarget, ?_⟩
  rw [htarget] at hframe
  rw [stepByte, htarget] at ht
  cases ht
  exact ⟨by simp [hf], nz_of_flags (by simp) (by simp), rfl, hframe⟩

/-- Settles O31: four rows add 1, four subtract it. -/
theorem incDecModifyTheByte : Obligations.IncDecModifyTheByte := by
  intro s n w q hq
  fin_cases hq
  iterate 4 exact stepByte_does toNat_add_one rfl rfl rfl
  iterate 4 exact stepByte_does toNat_sub_one rfl rfl rfl

/-- A row of one byte whose instruction adds `k` modulo 256 to a register. -/
theorem stepReg_does (r : Reg) {f : Byte → Byte} {k : Nat} (hf : ∀ v, (f v).toNat = (v.toNat + k) % 256) {row : Row} {s : State}
    (hop : (encode row.instr).head? = some row.opcode) (hexec : exec row.instr s = stepReg r f s)
    (hlen : operandLength row.operand = 1) :
    row.Does s fun t => (t.reg r).toNat = ((s.reg r).toNat + k) % 256 ∧ NZ (t.reg r) t ∧ Advances row.operand s t ∧
      Frame [r.piece, .flag .z, .flag .n] [] s t := by
  rw [stepReg, ← hlen] at hexec
  refine ⟨hop, _, hexec, ?_⟩
  obtain ⟨hreg, hnz, hrest⟩ := loads_setReg s r (f (s.reg r)) row.operand
  exact ⟨(congrArg BitVec.toNat hreg).trans (hf _), hreg.symm ▸ hnz, hrest⟩

/-- Settles O32: each register up and down by 1. -/
theorem indexIncrementsAndDecrements : Obligations.IndexIncrementsAndDecrements := fun _ =>
  ⟨stepReg_does .x toNat_add_one rfl rfl rfl, stepReg_does .y toNat_add_one rfl rfl rfl,
    stepReg_does .x toNat_sub_one rfl rfl rfl, stepReg_does .y toNat_sub_one rfl rfl rfl⟩

/-! ### Shifts and rotates (R170 to R173) -/

theorem toNat_value_shiftLeft (m : Byte) : (shiftLeft m).value.toNat = m.toNat * 2 % 256 := BitVec.toNat_ofNat _ _

theorem toNat_value_shiftRight (m : Byte) : (shiftRight m).value.toNat = m.toNat / 2 := by
  rw [shiftRight, BitVec.toNat_ofNat]
  omega

/-- The doubled byte has bit 0 clear, so the carry is added there. -/
theorem toNat_value_rotateLeft (m : Byte) (c : Bool) : (rotateLeft m c).value.toNat = m.toNat * 2 % 256 + c.toNat := by
  have hc : c.toNat < 2 := c.toNat_lt
  have hor := Nat.two_pow_add_eq_or_of_lt (i := 1) hc (m.toNat % 128)
  have hdouble : m.toNat * 2 % 256 = 2 ^ 1 * (m.toNat % 128) := by omega
  have hbyte : c.toNat % 256 = c.toNat := by omega
  rw [rotateLeft, BitVec.toNat_or, BitVec.toNat_ofNat, BitVec.toNat_ofNat, hbyte, hdouble, hor]

/-- The halved byte has bit 7 clear, so the carry is added there. -/
theorem toNat_value_rotateRight (m : Byte) (c : Bool) : (rotateRight m c).value.toNat = c.toNat * 128 + m.toNat / 2 := by
  have hm : m.toNat / 2 < 2 ^ 7 := by omega
  have hor := Nat.two_pow_add_eq_or_of_lt hm c.toNat
  have hlt : c.toNat < 2 := c.toNat_lt
  have hc : c.toNat * 128 % 256 = 2 ^ 7 * c.toNat := by omega
  have hbyte : m.toNat / 2 % 256 = m.toNat / 2 := by omega
  rw [rotateRight, BitVec.toNat_or, BitVec.toNat_ofNat, BitVec.toNat_ofNat, hbyte, hc, ← hor, Nat.mul_comm c.toNat]

theorem heldAt_writeBack (s : State) (g : Target) (v : Byte) : HeldAt g v (s.writeBack g v) := by
  cases g with
  | nothing => trivial
  | accumulator => rfl
  | address a => exact s.mem.read_write_same a v

/-- A row whose instruction is a shift with the result `g` of M, and bit `k` of M shifted out. -/
theorem shift_does {f : Byte → Shifted} {g : Nat → Nat} {k : Nat} (hvalue : ∀ m, (f m).value.toNat = g m.toNat)
    (hout : ∀ m, (f m).out = m.getLsbD k) {row : Row} {s : State} (hop : (encode row.instr).head? = some row.opcode)
    (hexec : exec row.instr s = shift f row.operand s) (htarget : target row.operand s ≠ .nothing) :
    row.Does s fun t => ∃ v : Byte, v.toNat = g (operandValue row.operand s).toNat ∧ HeldAt (target row.operand s) v t ∧
      target row.operand s ≠ .nothing ∧ t.flag .c = (operandValue row.operand s).getLsbD k ∧ NZ v t ∧
      Advances row.operand s t ∧
      Frame (targetPieces (target row.operand s) ++ [.flag .c, .flag .z, .flag .n])
        (targetAddresses (target row.operand s)) s t := by
  obtain ⟨t, ht, hframe⟩ := shift_framed f row.operand s
  refine ⟨hop, t, hexec.trans ht, (f (operandValue row.operand s)).value, hvalue _, ?_⟩
  cases ht
  refine ⟨heldAt_writeBack s _ _, htarget, by simp [hout], nz_of_flags (by simp) (by simp), by simp [Advances], ?_⟩
  simpa only [List.append_assoc, List.cons_append, List.nil_append] using hframe

/-- Settles O33: five rows are ASL, five LSR. -/
theorem shiftsMoveOneBit : Obligations.ShiftsMoveOneBit := by
  intro s n w q hq
  fin_cases hq
  iterate 5 exact shift_does toNat_value_shiftLeft (fun _ => rfl) rfl rfl nofun
  iterate 5 exact shift_does toNat_value_shiftRight (fun _ => rfl) rfl rfl nofun

/-- Settles O34: five rows are ROL, five ROR, with the carry of `s`; `g` is written out, since unification does not find it
under the sum. -/
theorem rotatesMoveTheCarryIn : Obligations.RotatesMoveTheCarryIn := by
  intro s n w q hq
  fin_cases hq
  iterate 5 exact shift_does (g := (· * 2 % 256 + (s.flag .c).toNat)) (toNat_value_rotateLeft · _) (fun _ => rfl) rfl rfl nofun
  iterate 5 exact shift_does (g := ((s.flag .c).toNat * 128 + · / 2)) (toNat_value_rotateRight · _) (fun _ => rfl) rfl rfl nofun

end Sys2Proof.Machine
end

section
/-! SUPPORT. The flag instructions and NOP (43_flags_nop.md R190 to R197): what writing one flag does, said once for every
flag and value; NOP is the plain advance. -/

namespace Sys2Proof.Machine

/-- A row of one byte whose instruction writes the flag `f` gives it the value `b` and changes nothing else. -/
theorem writeFlag_does (f : PFlag) (b : Bool) {row : Row} {s : State} (hop : (encode row.instr).head? = some row.opcode)
    (hexec : exec row.instr s = writeFlag f b s) (hlen : operandLength row.operand = 1) :
    row.Does s fun t => t.flag f = b ∧ Advances row.operand s t ∧ Frame [.flag f] [] s t := by
  obtain ⟨t, ht, hframe⟩ := writeFlag_framed f b s
  refine ⟨hop, t, hexec.trans ht, ?_⟩
  cases ht
  exact ⟨by simp, by simp [Advances, hlen], hframe⟩

/-- NOP answers the plain advance over its one byte, which writes PC alone (R197). -/
theorem nop_does (s : State) : Row.Does ⟨0xEA#8, .nop, .imp⟩ s (fun t => t = s.setPc (s.pc + 1#16)) := ⟨rfl, _, rfl, rfl⟩

/-- Settles O35: the seven flag rows each write one flag, and NOP advances. -/
theorem flagInstructionsWriteOneFlag : Obligations.FlagInstructionsWriteOneFlag := by
  intro s
  refine ⟨fun q hq => ?_, nop_does s⟩
  fin_cases hq <;> exact writeFlag_does _ _ rfl rfl rfl

end Sys2Proof.Machine
end

section
/-! SUPPORT. The stack instructions (44_stack.md R200 to R203) and the pairs of a push with its pull (with 45_control.md R211,
R212): what is pulled, said once for every state that keeps SP and the pushed bytes. -/

namespace Sys2Proof.Machine

/-! ### Pushes and pulls (R200 to R203) -/

/-- A frame stays one when its pieces are listed in another order or beside others. -/
theorem Frame.mono {may may' : List Piece} {stored : List Word} {s t : State} (h : Frame may stored s t) (hsub : may ⊆ may') :
    Frame may' stored s t where
  a ha := h.a fun hmem => ha (hsub hmem)
  x hx := h.x fun hmem => hx (hsub hmem)
  y hy := h.y fun hmem => hy (hsub hmem)
  sp hsp := h.sp fun hmem => hsp (hsub hmem)
  flags f hf := h.flags f fun hmem => hf (hsub hmem)
  bit5 hbit := h.bit5 fun hmem => hbit (hsub hmem)
  run := h.run
  mem := h.mem

/-- A row of one byte whose instruction pushes the byte `v` (20_memory.md R60). -/
theorem push_does (v : Byte) {row : Row} {s : State} (hop : (encode row.instr).head? = some row.opcode)
    (hexec : exec row.instr s = .next ((s.push8 v).advance 1)) :
    row.Does s fun t => t.mem.read (stackAddress s.sp) = v ∧ t.sp.toNat = (s.sp.toNat + 255) % 256 ∧ Advances .imp s t ∧
      Frame [.sp] [stackAddress s.sp] s t :=
  ⟨hop, _, hexec, s.mem.read_write_same _ v, toNat_sub_one s.sp, rfl, (frame_push8 s v).advance 1⟩

/-- Settles O36: PHA pushes A, PHP pushes P. -/
theorem pushesStoreTheByte : Obligations.PushesStoreTheByte := by
  intro s q hq
  fin_cases hq
  · exact push_does s.a rfl rfl
  · exact push_does s.p rfl rfl

/-- Settles O37: after the pop PLA loads A as LDA does, and PLP writes P whole. -/
theorem pullsLoadTheByte : Obligations.PullsLoadTheByte := by
  intro s
  refine ⟨⟨rfl, _, rfl, ?_⟩, ⟨rfl, _, rfl, rfl, toNat_add_one s.sp, rfl, ((frame_drop8 s).trans (frame_setP _ _)).advance 1⟩⟩
  obtain ⟨ha, hnz, hadvance, hframe⟩ := loads_setReg s.drop8 .a s.top8 .imp
  exact ⟨ha, hnz, toNat_add_one s.sp, hadvance, ((frame_drop8 s).trans hframe).mono (by decide)⟩

/-! ### A push and the pull that answers it -/

section
variable {s u : State}

/-- Where SP and the pushed byte are kept, Pop8 returns that byte and SP (20_memory.md R64). -/
theorem pop8_of_kept {v : Byte} (hsp : u.sp = (s.push8 v).sp)
    (hmem : u.mem.read (stackAddress s.sp) = (s.push8 v).mem.read (stackAddress s.sp)) : u.top8 = v ∧ u.drop8.sp = s.sp := by
  have hback : u.sp + 1#8 = s.sp := by simp [hsp]
  refine ⟨?_, hback⟩
  rw [State.top8, hback, hmem, State.mem_push8, Memory.read_write_same]

/-- Where SP and the two pushed bytes are kept, Pop16 returns their word and SP. -/
theorem pop16_of_kept {w : Word} (hsp : u.sp = (s.push16 w).sp)
    (hhigh : u.mem.read (stackAddress s.sp) = (s.push16 w).mem.read (stackAddress s.sp))
    (hlow : u.mem.read (stackAddress (s.sp - 1#8)) = (s.push16 w).mem.read (stackAddress (s.sp - 1#8))) :
    u.top16 = w ∧ u.drop16.sp = s.sp := by
  have hback : (s.push16 w).sp + 2#8 = s.sp := by simp
  have hback_one : (s.push16 w).sp + 1#8 = s.sp - 1#8 := by
    rw [State.sp_push16]
    bv_omega
  refine ⟨?_, by rw [State.sp_drop16, hsp, hback]⟩
  calc u.top16 = (s.push16 w).top16 := by
        rw [State.top16_eq, State.top16_eq, hsp, hback, hback_one, hhigh, hlow]
    _ = w := State.top16_push16 s w

end

/-- Settles O49: each of the three pairs is a push and its pop; RTS adds the 1 that makes JSR's PC + 2 the next instruction. -/
theorem callsReturnExactly : Obligations.CallsReturnExactly := by
  intro s t u w hsp hmem
  refine ⟨fun h hlow => ?_, fun h => ?_, fun h => ?_⟩
  · cases h
    obtain ⟨hword, hback⟩ := pop16_of_kept hsp hmem hlow
    have hpc : u.top16 + 1#16 = s.pc + 3#16 := by
      rw [hword, BitVec.add_assoc]
      rfl
    exact ⟨_, rfl, hpc, hback⟩
  all_goals
    cases h
    obtain ⟨hbyte, hback⟩ := pop8_of_kept hsp hmem
    exact ⟨_, rfl, hbyte, hback⟩

end Sys2Proof.Machine
end

section
/-! SUPPORT. Control transfer (45_control.md R210 to R223): jumps, the subroutine pair, the branches, and the entry BRK shares
with IRQ and NMI (60_exceptions.md R245) with the return that answers it (R251). -/

namespace Sys2Proof.Machine

/-! ### Jumps and the subroutine pair (R210 to R212) -/

/-- Settles O38: the absolute form takes the operand, the indirect one the word it points to. -/
theorem jumpsSetPc : Obligations.JumpsSetPc := by
  intro s w
  refine ⟨⟨rfl, _, rfl, rfl, (frame_refl _ _ s).setPc _⟩, ⟨rfl, _, rfl, ?_, (frame_refl _ _ s).setPc _⟩⟩
  rw [ofNat_next_address]
  exact s.mem.toNat_readWord w

/-- The second push of a word leaves the byte of the first, the high one, in place (20_memory.md R62). -/
theorem read_push16_high (s : State) (w : Word) : (s.push16 w).mem.read (stackAddress s.sp) = hi w := by
  rw [State.mem_push16, Memory.read_write_ne _ _ (stackAddress_ne_pred s.sp), Memory.read_write_same]

theorem read_push16_low (s : State) (w : Word) : (s.push16 w).mem.read (stackAddress (s.sp - 1#8)) = lo w := by
  rw [State.mem_push16, Memory.read_write_same]

theorem toNat_sub_two (v : Byte) : (v - 2#8).toNat = (v.toNat + 254) % 256 := by bv_omega

theorem toNat_sub_three (v : Byte) : (v - 3#8).toNat = (v.toNat + 253) % 256 := by bv_omega

/-- Settles O39: a word push and the jump. -/
theorem jsrPushesItsLastByte : Obligations.JsrPushesItsLastByte := by
  intro s w
  refine ⟨rfl, _, rfl, rfl, read_push16_high s _, read_push16_low s _, ?_,
    ((frame_push16 s _).setPc w).mono (by decide)⟩
  rw [State.sp_setPc, State.sp_push16, toNat_sub_two]

/-- Settles O40: a word pop, and 1 added to the word. -/
theorem rtsReturnsPastTheWord : Obligations.RtsReturnsPastTheWord := by
  intro s
  refine ⟨rfl, _, rfl, ?_, ?_, ((frame_drop16 s).setPc _).mono (by decide)⟩
  · rw [State.pc_setPc, BitVec.toNat_add, State.top16_eq, toNat_wordOf]
    rfl
  · rw [State.sp_setPc, State.sp_drop16, BitVec.toNat_add]
    rfl

/-! ### Branches (R213 to R221) -/

/-- A sign-extended byte has its signed number modulo 65536 (00_scope.md R12). -/
theorem toNat_sext16 (n : Byte) : ((sext16 n).toNat : Int) = n.toInt % 65536 := by
  rw [sext16, BitVec.toNat_ofInt]
  exact Int.toNat_of_nonneg (Int.emod_nonneg _ (by decide))

/-- The target of a branch in the numbers of the spec. -/
theorem toNat_branchTarget (pc : Word) (n : Byte) :
    ((pc + 2#16 + sext16 n).toNat : Int) = ((pc.toNat : Int) + 2 + n.toInt) % 65536 := by
  have hoffset := toNat_sext16 n
  rw [BitVec.toNat_add, BitVec.toNat_add, BitVec.toNat_ofNat]
  omega

/-- A row whose instruction is a branch on `cond`, which tells whether `taken` holds. -/
theorem branch_does {cond : Bool} {taken : Prop} (hcond : cond = true ↔ taken) {n : Byte} {row : Row} {s : State}
    (hop : (encode row.instr).head? = some row.opcode) (hexec : exec row.instr s = branch cond n s) :
    row.Does s fun t => (taken → (t.pc.toNat : Int) = ((s.pc.toNat : Int) + 2 + n.toInt) % 65536) ∧
      (¬taken → t.pc.toNat = (s.pc.toNat + 2) % 65536) ∧ Frame [] [] s t := by
  obtain rfl := propext hcond
  cases cond with
  | true => exact ⟨hop, _, hexec, fun _ => toNat_branchTarget s.pc n, fun h => absurd rfl h, (frame_refl _ _ s).setPc _⟩
  | false => exact ⟨hop, _, hexec, nofun, fun _ => BitVec.toNat_add s.pc 2#16, (frame_refl _ _ s).setPc _⟩

/-- Settles O41: each row is a branch on its flag, or on the flag's complement. -/
theorem branchesFollowTheirFlag : Obligations.BranchesFollowTheirFlag := by
  intro s n q hq
  fin_cases hq <;> exact branch_does (by simp) rfl rfl

/-! ### The entry of BRK, IRQ and NMI (R222, 60_exceptions.md R245) -/

/-- From `s` to `t` the return address and P as stored are pushed, B takes the value `b`, I is set, PC is the word at the
vector, and nothing else changes. -/
def Enters (ret : Word) (b : Bool) (vec : Word) (s t : State) : Prop :=
  t.mem.read (stackAddress s.sp) = hi ret ∧ t.mem.read (stackAddress (s.sp - 1#8)) = lo ret ∧
    t.mem.read (stackAddress (s.sp - 2#8)) = s.p ∧ t.sp.toNat = (s.sp.toNat + 253) % 256 ∧ t.flag .b = b ∧
    t.flag .i = true ∧ t.pc.toNat = twoBytes s.mem (vec + 1#16) vec ∧
    Frame [.sp, .flag .b, .flag .i] [stackAddress s.sp, stackAddress (s.sp - 1#8), stackAddress (s.sp - 2#8)] s t

section
variable (s : State) (ret : Word) (b : Bool) (vec : Word)

theorem read_enter_high : (s.enter ret b vec).mem.read (stackAddress s.sp) = hi ret := by
  rw [State.mem_enter, Memory.read_write_ne _ _ (stackAddress_ne_pred_two s.sp),
    Memory.read_write_ne _ _ (stackAddress_ne_pred s.sp), Memory.read_write_same]

theorem read_enter_low : (s.enter ret b vec).mem.read (stackAddress (s.sp - 1#8)) = lo ret := by
  rw [State.mem_enter, Memory.read_write_ne _ _ (stackAddress_pred_ne_pred_two s.sp), Memory.read_write_same]

theorem read_enter_status : (s.enter ret b vec).mem.read (stackAddress (s.sp - 2#8)) = s.p := by
  rw [State.mem_enter, Memory.read_write_same]

/-- The bytes above the stack page are as before the pushes. -/
theorem read_enter_of_high {a : Word} (ha : 512 ≤ a.toNat) : (s.enter ret b vec).mem.read a = s.mem.read a :=
  (frame_enter s ret b vec).mem a (by simp [stackAddress_ne_of_high _ ha])

/-- An entry through a vector above the stack page, which the pushes leave alone. -/
theorem enter_enters (hlow : 512 ≤ vec.toNat) (hhigh : 512 ≤ (vec + 1#16).toNat) :
    Enters ret b vec s (s.enter ret b vec) := by
  refine ⟨read_enter_high s ret b vec, read_enter_low s ret b vec, read_enter_status s ret b vec, ?_, by simp, by simp, ?_,
    (frame_enter s ret b vec).mono (by decide)⟩
  · rw [State.sp_enter, toNat_sub_three]
  · rw [State.pc_enter, Memory.toNat_readWord, twoBytes, read_enter_of_high s ret b vec hlow,
      read_enter_of_high s ret b vec hhigh, twoBytes]

end

/-- Settles O42: BRK is an entry through the vector of IRQ, with PC + 2 and B set. -/
theorem brkEntersTheHandler : Obligations.BrkEntersTheHandler := fun s =>
  ⟨rfl, _, rfl, enter_enters s (s.pc + 2#16) true Config.irqVector (by decide) (by decide)⟩

/-- IRQ is taken while I is 0 (60_exceptions.md R246). -/
theorem interrupt_of_clear {s : State} (hrun : s.run = .steady) (hclear : s.flag .i = false) :
    interrupt s = .next (s.enter s.pc false Config.irqVector) := by
  simp [interrupt, hrun, hclear]

/-- NMI is taken whatever I is (60_exceptions.md R247). -/
theorem nonMaskableInterrupt_of_steady {s : State} (hrun : s.run = .steady) :
    nonMaskableInterrupt s = .next (s.enter s.pc false Config.nmiVector) := by
  simp [nonMaskableInterrupt, hrun]

/-! ### The return (R223, 60_exceptions.md R251) -/

/-- Settles O43: the three bytes above SP are P and the word of PC. -/
theorem rtiRestoresStatusAndPc : Obligations.RtiRestoresStatusAndPc := by
  intro s
  refine ⟨rfl, _, rfl, s.p_leave, ?_, ?_, (frame_leave s).mono (by decide)⟩
  · rw [State.pc_leave, toNat_wordOf, twoBytes]
  · rw [State.sp_leave, BitVec.toNat_add]
    rfl

/-- Where SP and the three stacked bytes of an entry are kept, RTI restores P, SP and the return address. -/
theorem rti_of_kept {s u : State} {ret : Word} {b : Bool} {vec : Word} (hsp : u.sp = (s.enter ret b vec).sp)
    (hhigh : u.mem.read (stackAddress s.sp) = (s.enter ret b vec).mem.read (stackAddress s.sp))
    (hlow : u.mem.read (stackAddress (s.sp - 1#8)) = (s.enter ret b vec).mem.read (stackAddress (s.sp - 1#8)))
    (hstatus : u.mem.read (stackAddress (s.sp - 2#8)) = (s.enter ret b vec).mem.read (stackAddress (s.sp - 2#8))) :
    ∃ v, exec .rti u = .next v ∧ v.p = s.p ∧ v.sp = s.sp ∧ v.pc = ret := by
  rw [State.sp_enter] at hsp
  have hone : u.sp + 1#8 = s.sp - 2#8 := by bv_omega
  have htwo : u.sp + 2#8 = s.sp - 1#8 := by bv_omega
  have hthree : u.sp + 3#8 = s.sp := by bv_omega
  refine ⟨u.leave, rfl, ?_, ?_, ?_⟩
  · rw [State.p_leave, hone, hstatus, read_enter_status]
  · rw [State.sp_leave, hthree]
  · rw [State.pc_leave, htwo, hthree, hhigh, hlow, read_enter_high, read_enter_low, wordOf_hi_lo]

/-- Settles O48: each of the three calls is an entry, IRQ and NMI with PC, BRK with PC + 2. -/
theorem interruptsReturnExactly : Obligations.InterruptsReturnExactly := by
  intro s t u hrun hsp hhigh hlow hstatus
  refine ⟨?_, fun hbrk => ?_⟩
  · rintro (⟨hclear, hirq⟩ | hnmi)
    · rw [interrupt_of_clear hrun hclear] at hirq
      cases hirq
      exact rti_of_kept hsp hhigh hlow hstatus
    · rw [nonMaskableInterrupt_of_steady hrun] at hnmi
      cases hnmi
      exact rti_of_kept hsp hhigh hlow hstatus
  · cases hbrk
    exact rti_of_kept hsp hhigh hlow hstatus

end Sys2Proof.Machine
end

section
/-! SUPPORT. Fatal errors and interrupts (60_exceptions.md R240 to R253): what a step of a Steady core answers, said once, and
what the host's calls answer on a Fatal core. -/

namespace Sys2Proof.Machine

/-! ### The invariant -/

/-- Settles O57: the `execute()` case of the invariant along the host's calls. -/
theorem stepKeepsTheInvariant : Obligations.StepKeepsTheInvariant := fun _ _ hs h => coreInv_step hs h

/-! ### The step of a Steady core (R240 to R244) -/

/-- The causes a step can raise (R240): a ROM image is malformed at boot only. -/
def RaisedByStep (cause : FatalCause) : Prop := cause = .unknownOpcode ∨ cause = .unimplementedFeature

/-- A step of a Steady core raises a fatal error on the byte at PC, or leaves the core Steady. -/
theorem step_cases_of_steady {s : State} (hrun : s.run = .steady) :
    (∃ cause, RaisedByStep cause ∧ step s = .next (s.raiseFatal cause (s.mem.read s.pc))) ∨
      ∃ t, step s = .next t ∧ t.run = .steady := by
  cases hf : fetchInstr s with
  | reject e => exact .inl ⟨.unknownOpcode, .inl rfl, step_of_reject hrun hf⟩
  | instr i rest =>
    rw [step_of_fetch hrun hf, ← opcodeByte_of_fetch hf]
    obtain ⟨-, -, hfatal⟩ | ⟨t, ht, hkeep, -⟩ := exec_cases i s
    · exact .inl ⟨.unimplementedFeature, .inr rfl, hfatal⟩
    · exact .inr ⟨t, ht, hkeep.trans hrun⟩

/-- Settles O17: the two cases of a step. -/
theorem steadyStepsAnswer : Obligations.SteadyStepsAnswer := by
  intro s hrun
  obtain ⟨cause, hcause, hstep⟩ | ⟨t, hstep, hsteady⟩ := step_cases_of_steady hrun
  · exact ⟨_, hstep, .inr ⟨_, State.run_raiseFatal s cause _, hcause⟩⟩
  · exact ⟨t, hstep, .inl hsteady⟩

/-- Settles O18: of the two cases of a step only the raised error ends in Fatal, and raising writes Run alone. -/
theorem fatalErrorsArePrecise : Obligations.FatalErrorsArePrecise := by
  intro s t r hrun hstep hfatal
  obtain ⟨cause, -, hraise⟩ | ⟨u, hu, hsteady⟩ := step_cases_of_steady hrun
  · rw [hstep, Host.Outcome.next.injEq] at hraise
    subst hraise
    rw [State.run_raiseFatal, RunState.fatal.injEq] at hfatal
    subst hfatal
    exact ⟨rfl, rfl, rfl⟩
  · rw [hstep, Host.Outcome.next.injEq] at hu
    subst hu
    rw [hfatal] at hsteady
    cases hsteady

/-- The fetch of an undefined opcode byte is rejected by name (30_encoding.md R85). -/
theorem fetchInstr_of_undefined {s : State} (h : (s.mem.read s.pc).toNat ∈ undefinedOpcodes) :
    fetchInstr s = .reject (.undefinedOpcode (s.mem.read s.pc)) :=
  have ⟨hdecode, _, _⟩ := undefinedBytesAreRejected.2 (s.mem.read s.pc) [s.mem.read (s.pc + 1#16), s.mem.read (s.pc + 2#16)]
  hdecode.2 h

/-- Settles O14: the fetch is rejected, and the rejection raises the fatal error. -/
theorem unknownOpcodeStep : Obligations.UnknownOpcodeStep := fun _ hrun hundef =>
  ⟨_, step_of_reject hrun (fetchInstr_of_undefined hundef), rfl, rfl, rfl⟩

/-! ### A Fatal core (R243) -/

section
variable {s : State} {r : FatalRecord}

theorem run_of_fatal (n : Nat) (h : s.run = .fatal r) : run n s = .fault (.fatal r) := by simp [run, h, fatalStep]

theorem interrupt_of_fatal (h : s.run = .fatal r) : interrupt s = .next s := by simp [interrupt, h]

theorem nonMaskableInterrupt_of_fatal (h : s.run = .fatal r) : nonMaskableInterrupt s = .next s := by
  simp [nonMaskableInterrupt, h]

end

/-- Settles O15: what each of the four calls answers on a Fatal core. -/
theorem fatalIsAbsorbing : Obligations.FatalIsAbsorbing := fun _ _ h =>
  ⟨step_of_fatal h, fun n => run_of_fatal n h, interrupt_of_fatal h, nonMaskableInterrupt_of_fatal h⟩

/-! ### Interrupts of a Steady core (R245 to R247) -/

/-- IRQ is discarded while I is 1 (R246). -/
theorem interrupt_of_set {s : State} (hrun : s.run = .steady) (hset : s.flag .i = true) : interrupt s = .next s := by
  simp [interrupt, hrun, hset]

/-- Settles O46: discarded while I is 1, an entry through the vector of IRQ with B cleared while I is 0. -/
theorem irqIsGatedByI : Obligations.IrqIsGatedByI := fun s hrun =>
  ⟨interrupt_of_set hrun, fun hclear =>
    ⟨_, interrupt_of_clear hrun hclear, enter_enters s s.pc false Config.irqVector (by decide) (by decide)⟩⟩

/-- Settles O47: an entry through the vector of NMI with B cleared. -/
theorem nmiIsNeverMasked : Obligations.NmiIsNeverMasked := fun s hrun =>
  ⟨_, nonMaskableInterrupt_of_steady hrun, enter_enters s s.pc false Config.nmiVector (by decide) (by decide)⟩

end Sys2Proof.Machine
end
